-- ==== Sys2Proof/Word.lean ====
section
/-! DEFINITION. The words the manual adds, shifts and compares: bytes, frame numbers, sequence numbers, positions. -/

namespace Sys2Proof

/-- A byte of a message, of a register or of a snapshot image. -/
abbrev Byte := BitVec 8

/-- A 16-bit two's complement or unsigned field of a record (chapter 13, "signed" fields among them). -/
abbrev Half := BitVec 16

/-- A frame number: 16 bits, wrapping modulo 65536 (1.5.2, R26). -/
abbrev Frame := BitVec 16

/-- A sequence number or sequence mark: 8 bits, wrapping modulo 256 (R62, R73). -/
abbrev SeqNum := BitVec 8

/-- A position on the wall, 0-15; slot `k` belongs to position `k` (1.5.3, 1.5.4). -/
abbrev Position := Fin 16

/-- Red, green and blue, 0-255 each (Table 1-4). -/
structure RGB where
  r : Byte
  g : Byte
  b : Byte
  deriving DecidableEq, Repr

/-- Elapsed time, counted in 1/32 µs (log 2). -/
abbrev Ticks := Nat

end Sys2Proof
end

