-- ==== Sys2Proof/Syntax.lean ====
section
/-! DEFINITION. The commands of the block: one constructor of `Instr` for each row of spec/opcode_table.json, with the row's
operands. A command is a register access, an event on a pin or on the wall bus, or the expiry of one of the block's timers. -/

namespace Sys2Proof

/-- The three debounced panel inputs (R163). -/
inductive PanelInput where
  | presence
  | latch
  | button
  deriving DecidableEq, Repr

/-- The four readable event sets (R184). -/
inductive EventSet where
  | fault
  | wall
  | service
  | frame
  deriving DecidableEq, Repr

/-- The three read-to-clear counters (R188). -/
inductive CounterName where
  | badMessages
  | earlyStrobes
  | outOfWindow
  deriving DecidableEq, Repr

/-- The two configuration registers (R179). -/
inductive ConfigReg where
  | tile
  | wall
  deriving DecidableEq, Repr

/-- What the pins show at the release of RESET_N: the strap groups as unsigned numbers (R36) and the levels of the raw
panel lines, `true` for present, closed, pressed and power good (log 5). -/
structure ResetPins where
  pos : Position
  colPins : Fin 8
  rowPins : Fin 8
  presence : Bool
  latch : Bool
  button : Bool
  pgood : Bool
  deriving DecidableEq, Repr

/-- The commands, in the order of spec/opcode_table.json. -/
inductive Instr where
  /-- PIN_RESET (R61): assertion and release of RESET_N with these pins at the release. -/
  | pinReset (pins : ResetPins)
  /-- RESET_STATION (R182). -/
  | resetStation
  /-- OWN_FRAME_TIMER_EXPIRY (R20). -/
  | ownFrameTimerExpiry
  /-- WB_STROBE_EDGE (R21): a rising edge that arrives when the own frame timer reads `reading` (log 17). -/
  | wbStrobeEdge (reading : Ticks)
  /-- STROBE_DRIVE_END (R22). -/
  | strobeDriveEnd
  /-- SLOT_OPEN (R25). -/
  | slotOpen (slot : Position)
  /-- OWN_SLOT_OPEN (R10). -/
  | ownSlotOpen
  /-- TRANSMIT_COMPLETE (R1). -/
  | transmitComplete
  /-- SLOT_CLOSE (R8). -/
  | slotClose (slot : Position)
  /-- MESSAGE_RECEIVED (R3): bytes arriving on the pair, and whether the byte after them, if one follows, has its stop bit
  (log 6). -/
  | messageReceived (bytes : List Byte) (stopBit : Bool)
  /-- READBACK (R14): the bytes of the own slot, as for MESSAGE_RECEIVED. -/
  | readback (bytes : List Byte) (stopBit : Bool)
  /-- LOOPED_HANDOVER (R18). -/
  | loopedHandover
  /-- JOIN (R36). -/
  | join
  /-- LEAVE (R49). -/
  | leave
  /-- LOOPBACK (R37). -/
  | loopback
  /-- UNLOOP (R38). -/
  | unloop
  /-- CLEAR_FAULT (R39). -/
  | clearFault
  /-- SUBMIT (R66). -/
  | submit
  /-- UNKNOWN_COMMAND (R181): a COMMAND byte that names no command. -/
  | unknownCommand (value : Byte)
  /-- STAGE_WRITE (R65, R178): data byte `n` (from 0) of a write transaction addressed to STAGE_`reg`. -/
  | stageWrite (reg : Fin 14) (n : Nat) (value : Byte)
  /-- PAL_INDEX_WRITE (R68). -/
  | palIndexWrite (value : Byte)
  /-- PAL_DATA_WRITE (R68). -/
  | palDataWrite (value : Byte)
  /-- PAL_READ_INDEX_WRITE (R69). -/
  | palReadIndexWrite (value : Byte)
  /-- PAL_DATA_READ (R69). -/
  | palDataRead
  /-- CURSOR_ROW_INDEX_WRITE (R70, R71). -/
  | cursorRowIndexWrite (value : Byte)
  /-- CURSOR_DATA_WRITE (R70). -/
  | cursorDataWrite (value : Byte)
  /-- CURSOR_DATA_READ (R71). -/
  | cursorDataRead
  /-- RECEIPT_READ (R77). -/
  | receiptRead
  /-- SUBMIT_STATUS_READ (R67). -/
  | submitStatusRead
  /-- EVENT_SET_READ (R184). -/
  | eventSetRead (set : EventSet)
  /-- COUNTER_READ (R188). -/
  | counterRead (counter : CounterName)
  /-- CONFIG_WRITE (R179): the data bytes the write transaction has carried so far; it is complete when they fill the
  register's width (R177, log 16). -/
  | configWrite (reg : ConfigReg) (bytes : List Byte)
  /-- IRQ_ENABLE_WRITE (R180). -/
  | irqEnableWrite (value : Byte)
  /-- IGNORED_WRITE (R178): a data byte written to an index whose class ignores writes, or that names no register. -/
  | ignoredWrite (index : BitVec 7) (value : Byte)
  /-- POWER_ON (R171): a SERVICE_CONTROL byte with power field ON; `led` is its LED field, bits 4-2. -/
  | powerOn (led : BitVec 3)
  /-- POWER_OFF (R172): a SERVICE_CONTROL byte with power field OFF. -/
  | powerOff (led : BitVec 3)
  /-- SERVICE_LED (R173): a SERVICE_CONTROL byte whose power field is NO_CHANGE. -/
  | serviceLed (led : BitVec 3)
  /-- PANEL_LINE_CHANGE (R163): the raw line of `input` goes to `level`. -/
  | panelLineChange (input : PanelInput) (level : Bool)
  /-- DEBOUNCE_EXPIRY (R163). -/
  | debounceExpiry (input : PanelInput)
  /-- POWER_GOOD (R164, R166): a rising edge of PNL_PGOOD. -/
  | powerGood
  /-- POWER_GOOD_LOST (R164, R167): a falling edge of PNL_PGOOD. -/
  | powerGoodLost
  /-- POWER_TIMER_EXPIRY (R166, R167). -/
  | powerTimerExpiry
  /-- LED_BLINK_TOGGLE (R173). -/
  | ledBlinkToggle
  /-- SPI_TRANSACTION_END (R177). -/
  | spiTransactionEnd
  deriving DecidableEq, Repr

end Sys2Proof
end

