-- ==== Sys2Proof/Decode.lean ====
section
/-! DEFINITION. The register map (Table 13-8) and the access classes (R178); which command a written or read byte of the
control port is; and `decodeTableWord`, which answers none, since no row of spec/opcode_table.json gives bits. -/

namespace Sys2Proof

/-- The registers of Table 13-8; `stage k` is STAGE_`k`. -/
inductive Register where
  | stationStatus | busStatus | frameNumber | straps | roster | submitStatus | scheduleStatus | snapshotStatus
  | composeStatus | serviceStatus | showLive | cursorLive | backgroundLive | windowsLive | irqIdent
  | events (set : EventSet)
  | counter (c : CounterName)
  | config (reg : ConfigReg)
  | irqEnable | command | serviceControl | receipt
  | palIndex | palData | palReadIndex | cursorRowIndex | cursorData
  | stage (k : Fin 14)
  deriving DecidableEq, Repr

/-- The access classes of R178. -/
inductive RegClass where
  | status | readToClear | queue | configuration | control | dataPort | block
  deriving DecidableEq, Repr

/-- The register an index names (Table 13-8), or none. -/
def registerAt (index : BitVec 7) : Option Register :=
  match index.toNat with
  | 0x00 => some .stationStatus
  | 0x01 => some .busStatus
  | 0x02 => some .frameNumber
  | 0x03 => some .straps
  | 0x04 => some .roster
  | 0x05 => some .submitStatus
  | 0x06 => some .scheduleStatus
  | 0x07 => some .snapshotStatus
  | 0x08 => some .composeStatus
  | 0x09 => some .serviceStatus
  | 0x0A => some .showLive
  | 0x0B => some .cursorLive
  | 0x0C => some .backgroundLive
  | 0x0D => some .windowsLive
  | 0x10 => some .irqIdent
  | 0x11 => some (.events .fault)
  | 0x12 => some (.events .wall)
  | 0x13 => some (.events .service)
  | 0x14 => some (.events .frame)
  | 0x18 => some (.counter .badMessages)
  | 0x19 => some (.counter .earlyStrobes)
  | 0x1A => some (.counter .outOfWindow)
  | 0x20 => some (.config .tile)
  | 0x21 => some (.config .wall)
  | 0x22 => some .irqEnable
  | 0x28 => some .command
  | 0x29 => some .serviceControl
  | 0x2A => some .receipt
  | 0x30 => some .palIndex
  | 0x31 => some .palData
  | 0x32 => some .palReadIndex
  | 0x33 => some .cursorRowIndex
  | 0x34 => some .cursorData
  | n => if h : 0x40 ≤ n ∧ n < 0x4E then some (.stage ⟨n - 0x40, by omega⟩) else none

/-- The index of a register (Table 13-8). -/
def indexOf : Register → BitVec 7
  | .stationStatus => 0x00
  | .busStatus => 0x01
  | .frameNumber => 0x02
  | .straps => 0x03
  | .roster => 0x04
  | .submitStatus => 0x05
  | .scheduleStatus => 0x06
  | .snapshotStatus => 0x07
  | .composeStatus => 0x08
  | .serviceStatus => 0x09
  | .showLive => 0x0A
  | .cursorLive => 0x0B
  | .backgroundLive => 0x0C
  | .windowsLive => 0x0D
  | .irqIdent => 0x10
  | .events .fault => 0x11
  | .events .wall => 0x12
  | .events .service => 0x13
  | .events .frame => 0x14
  | .counter .badMessages => 0x18
  | .counter .earlyStrobes => 0x19
  | .counter .outOfWindow => 0x1A
  | .config .tile => 0x20
  | .config .wall => 0x21
  | .irqEnable => 0x22
  | .command => 0x28
  | .serviceControl => 0x29
  | .receipt => 0x2A
  | .palIndex => 0x30
  | .palData => 0x31
  | .palReadIndex => 0x32
  | .cursorRowIndex => 0x33
  | .cursorData => 0x34
  | .stage k => BitVec.ofNat 7 (0x40 + k.val)

/-- The access class of a register (R178). -/
def classOf : Register → RegClass
  | .stationStatus | .busStatus | .frameNumber | .straps | .roster | .submitStatus | .scheduleStatus | .snapshotStatus
  | .composeStatus | .serviceStatus | .showLive | .cursorLive | .backgroundLive | .windowsLive | .irqIdent => .status
  | .events _ | .counter _ => .readToClear
  | .receipt => .queue
  | .config _ => .configuration
  | .irqEnable => .control
  | .command | .serviceControl | .palIndex | .palData | .palReadIndex | .cursorRowIndex | .cursorData => .dataPort
  | .stage _ => .block

/-- The fixed width in bytes of a register (Table 13-8); one byte for a data port or a STAGE register. -/
def widthOf : Register → Nat
  | .stationStatus => 6
  | .busStatus => 2
  | .frameNumber => 2
  | .straps => 3
  | .roster => 32
  | .submitStatus => 7
  | .scheduleStatus => 4
  | .snapshotStatus => 12
  | .composeStatus => 18
  | .serviceStatus => 8
  | .showLive => 4
  | .cursorLive => 11
  | .backgroundLive => 1
  | .windowsLive => 128
  | .irqIdent => 1
  | .events _ => 1
  | .counter _ => 1
  | .config .tile => 4
  | .config .wall => 5
  | .irqEnable => 1
  | .receipt => 5
  | .command | .serviceControl | .palIndex | .palData | .palReadIndex | .cursorRowIndex | .cursorData => 1
  | .stage _ => 1

/-- Whether a write to the index is ignored: the class is status, read-to-clear or queue, or no register is named (R178). -/
def writeIgnoredAt (index : BitVec 7) : Bool :=
  match registerAt index with
  | none => true
  | some r =>
    match classOf r with
    | .status | .readToClear | .queue => true
    | .configuration | .control | .dataPort | .block => false

/-- The command a byte written to COMMAND names (R181, Table 13-6). -/
def commandOfByte (value : Byte) : Instr :=
  match value.toNat with
  | 1 => .join
  | 2 => .leave
  | 3 => .loopback
  | 4 => .unloop
  | 5 => .clearFault
  | 6 => .submit
  | 0x5A => .resetStation
  | _ => .unknownCommand value

/-- The command a byte written to SERVICE_CONTROL is: bits 1-0 the power field, bits 4-2 the LED field (Table 13-6); a power
field that names nothing is NO_CHANGE (R170). -/
def serviceOfByte (value : Byte) : Instr :=
  let led := value.extractLsb' 2 3
  match (value.extractLsb' 0 2).toNat with
  | 1 => .powerOn led
  | 2 => .powerOff led
  | _ => .serviceLed led

/-- The command that a data byte of a write transaction on `index` is, after the data bytes `before` of the same transaction
(R177, R178). None for a byte beyond a register's width, which is ignored. -/
def writeCommand (index : BitVec 7) (before : List Byte) (value : Byte) : Option Instr :=
  match registerAt index with
  | some .command => some (commandOfByte value)
  | some .serviceControl => some (serviceOfByte value)
  | some .palIndex => some (.palIndexWrite value)
  | some .palData => some (.palDataWrite value)
  | some .palReadIndex => some (.palReadIndexWrite value)
  | some .cursorRowIndex => some (.cursorRowIndexWrite value)
  | some .cursorData => some (.cursorDataWrite value)
  | some (.stage k) => some (.stageWrite k before.length value)
  | some .irqEnable => if before.length = 0 then some (.irqEnableWrite value) else none
  | some (.config reg) =>
    if before.length < widthOf (.config reg) then some (.configWrite reg (before ++ [value])) else none
  | _ => some (.ignoredWrite index value)

/-- The command that data byte `n` of a read transaction on `index` is (R177): the read is taken at the first data byte; at
PAL_DATA and CURSOR_DATA each byte is a read. None where the read changes nothing (a status register and the others of R178):
its value is `registerBytes`. -/
def readCommand (index : BitVec 7) (n : Nat) : Option Instr :=
  match registerAt index with
  | some .palData => some .palDataRead
  | some .cursorData => some .cursorDataRead
  | some .receipt => if n = 0 then some .receiptRead else none
  | some .submitStatus => if n = 0 then some .submitStatusRead else none
  | some (.events set) => if n = 0 then some (.eventSetRead set) else none
  | some (.counter c) => if n = 0 then some (.counterRead c) else none
  | _ => none

/-- The command a word spells by the table's bits: no row of the table gives bits, so there is none (98_reader). -/
def decodeTableWord (_nbits _w : Nat) : Option Instr := none

end Sys2Proof
end

