-- ==== Sys2Proof/Config.lean ====
section
/-! DEFINITION. What the part fixes: the principal quantities of Table 1-5 and the durations of the chapters, in the model's
unit of time (1/32 µs, log 2). The manual leaves no result of a command undefined, so no free value stands here. -/

namespace Sys2Proof.Config

/-- Pending list, records (R81). -/
def pendingCapacity : Nat := 48

/-- Outbound queue, records (R72). -/
def outboundCapacity : Nat := 8

/-- Credits: outbound, in-flight and unread together (R78). -/
def creditTotal : Nat := 16

/-- Records taken into one CHANGES message at most (R13). -/
def recordsPerMessage : Nat := 4

/-- Longest message body in bytes (R2). -/
def maxBody : Nat := 72

/-- Parts of one snapshot image (R129). -/
def partCount : Nat := 19

/-- Bytes of the snapshot image (R129). -/
def imageBytes : Nat := 1184

/-- View list entries kept (R150). -/
def viewCapacity : Nat := 4

/-- 1 µs in ticks. -/
def microsecond : Ticks := 32

/-- The strobe pulse, 4 µs (R22). -/
def strobePulse : Ticks := 4 * microsecond

/-- One byte on the pair, 2 µs (R1). -/
def byteTime : Ticks := 2 * microsecond

/-- Debounce of presence, latch and button, 20 ms (R163). -/
def debounceTime : Ticks := 20000 * microsecond

/-- Power-up and power-down timeout, 200 ms (R166, R167). -/
def powerTimeout : Ticks := 200000 * microsecond

/-- Half a blink, 250 ms (R173). -/
def blinkTime : Ticks := 250000 * microsecond

end Sys2Proof.Config
end

