-- ==== Sys2Proof/Machine/Blocks.lean ====
section
/-! DEFINITION. The state of each block of Table 1-2 as plain data, with the manual's names. -/

namespace Sys2Proof.Machine

/-! ### Station controller and roster (chapter 4) -/

/-- Station states (Table 4-1). -/
inductive StationState where
  | offline | listening | joining | member | leaving | fault | loopback
  deriving DecidableEq, Repr

/-- Fault reasons (R53). -/
inductive FaultReason where
  | none | strap | positionInUse | collision | geometry
  deriving DecidableEq, Repr

/-- Join reasons. -/
inductive JoinReason where
  | none | new | resync
  deriving DecidableEq, Repr

/-- Resync causes (Table 4-3). -/
inductive ResyncCause where
  | none | gap | frame | readback | merge
  deriving DecidableEq, Repr

/-- The station controller. `requestedLeave` says that the leave in progress was begun by an auto-leave request (R52). -/
structure Controller where
  state : StationState
  faultReason : FaultReason
  joinReason : JoinReason
  resyncCause : ResyncCause
  countdown : Nat
  memberHeard : Bool
  leaveFrame : Option Frame
  requestedLeave : Bool
  deriving DecidableEq, Repr

/-- Roster entry states (R54). -/
inductive EntryState where
  | absent | joining | member | leaving
  deriving DecidableEq, Repr

/-- A roster entry (R54). -/
structure Entry where
  state : EntryState
  miss : Nat
  expected : Option SeqNum
  leaveFrame : Option Frame
  deriving DecidableEq, Repr

/-- The straps as sampled at the last pin reset (R36, R61). -/
structure Straps where
  pos : Position
  colPins : Fin 8
  rowPins : Fin 8
  deriving DecidableEq, Repr

/-- CONFIG_TILE and CONFIG_WALL (R179). -/
structure Configuration where
  tileW : Half
  tileH : Half
  period : Half
  lead : Byte
  silence : Byte
  autoLeave : Bool
  deriving DecidableEq, Repr

/-! ### Change records (chapter 5) -/

/-- Record kinds (R63). -/
inductive RecordKind where
  | palette | cursorMove | cursorLook | cursorRow | window | background | showRec
  deriving DecidableEq, Repr

/-- The eight fields of a present window (Table 5-1). Source and layer have the four bits a record gives them (Table 13-3);
x and y are signed. -/
structure Window where
  source : BitVec 4
  layer : BitVec 4
  x : Half
  y : Half
  width : Half
  height : Half
  panX : Half
  panY : Half
  deriving DecidableEq, Repr

/-- The eight bytes of a cursor row, four two-bit codes each (Table 13-3). -/
abbrev CursorBytes := Vector Byte 8

/-- The kind of a record and the fields of its kind, as they are carried (R62, R190): values out of range are kept. A WINDOW
record whose present nibble is 0 ends after it; any other nibble is followed by the window's fields. -/
inductive Change where
  | palette (index : Byte) (colour : RGB)
  | cursorMove (x y : Half)
  | cursorLook (visible : Byte) (colourA colourB : RGB)
  | cursorRow (row : Byte) (codes : CursorBytes)
  | windowAbsent (id : BitVec 4)
  | windowPresent (id flag : BitVec 4) (window : Window)
  | background (index : Byte)
  | showRec (command argument : Byte)
  deriving DecidableEq, Repr

/-- The kind of a change. -/
def Change.kind : Change → RecordKind
  | .palette _ _ => .palette
  | .cursorMove _ _ => .cursorMove
  | .cursorLook _ _ _ => .cursorLook
  | .cursorRow _ _ => .cursorRow
  | .windowAbsent _ => .window
  | .windowPresent _ _ _ => .window
  | .background _ => .background
  | .showRec _ _ => .showRec

/-! ### Submission unit (chapter 5) -/

/-- A record of the outbound queue is WAITING, or BEING_SENT with its number and effective frame (R72). -/
inductive OutStatus where
  | waiting
  | beingSent (seq : SeqNum) (eff : Frame)
  deriving DecidableEq, Repr

/-- A record of the outbound queue. -/
structure OutRecord where
  change : Change
  status : OutStatus
  deriving DecidableEq, Repr

/-- Receipt outcomes (Table 5-3). -/
inductive ReceiptOutcome where
  | applied | rejectedOrder | rejectedConflict | rejectedField | discardedFull | notSent | uncertain
  deriving DecidableEq, Repr

/-- A receipt (R75); the effective frame is absent for NOT_SENT. -/
structure Receipt where
  seq : SeqNum
  kind : RecordKind
  outcome : ReceiptOutcome
  eff : Option Frame
  deriving DecidableEq, Repr

/-- The component pointer of a palette holding register (R68, R69). -/
inductive Component where
  | red | green | blue
  deriving DecidableEq, Repr

/-- A palette holding register: index, component pointer, three components. -/
structure PaletteHolding where
  index : Byte
  pointer : Component
  held : RGB
  deriving DecidableEq, Repr

/-- One side of the cursor row builder: row, byte pointer, eight bytes. -/
structure RowHolding where
  row : Fin 32
  pointer : Fin 8
  held : CursorBytes
  deriving DecidableEq, Repr

/-- Refusal reasons of a submission (R66, R67). -/
inductive RefusalReason where
  | none | state | invalid | queueFull | noCredit
  deriving DecidableEq, Repr

/-- The path of a submission (R67). -/
inductive RefusalPath where
  | none | stage | palette | cursor
  deriving DecidableEq, Repr

/-- The submission unit. -/
structure Submission where
  stage : Vector Byte 14
  palWrite : PaletteHolding
  palRead : PaletteHolding
  curWrite : RowHolding
  curRead : RowHolding
  outbound : List OutRecord
  ownSeq : SeqNum
  receipts : List Receipt
  refused : Bool
  refusalReason : RefusalReason
  refusalPath : RefusalPath
  deriving DecidableEq, Repr

/-! ### Wall bus interface (chapter 2) -/

/-- The readback result (R14). -/
inductive ReadbackResult where
  | none | success | failure
  deriving DecidableEq, Repr

/-- The alternation flag (R10). -/
inductive Alternation where
  | other | changes | part
  deriving DecidableEq, Repr

/-- Whether an own message waits for its outcome: on the pair (R14) or on the looped path (R18). -/
inductive Awaiting where
  | none | pair | looped
  deriving DecidableEq, Repr

/-- The reception attempt (R2): the receiver is not waiting, waits for a start bit, takes bytes, or pays no attention until
the slot closes or the next frame starts. -/
inductive Attempt where
  | off | waiting | receiving | ended
  deriving DecidableEq, Repr

/-- The wall bus interface. -/
structure Bus where
  txBuffer : List Byte
  rxBuffer : List Byte
  sending : Bool
  sendElapsed : Ticks
  awaiting : Awaiting
  readback : ReadbackResult
  alternation : Alternation
  runCount : Nat
  badMessages : Byte
  attempt : Attempt
  delivered : Bool
  deriving DecidableEq, Repr

/-- The body of a valid message (Table 2-1). -/
inductive Body where
  | join (reason : JoinReason)
  | leave (frame : Frame)
  | changes (records : List (Change × Frame))
  | part (streamFrame : Frame) (index count : Byte) (data : List Byte)
  | idle
  deriving DecidableEq, Repr

/-- A message as its header and body say (Table 13-1). `state` is JOINING, MEMBER or LEAVING in a valid message. -/
structure Message where
  sender : Position
  state : StationState
  frame : Frame
  members : BitVec 16
  mark : SeqNum
  body : Body
  deriving DecidableEq, Repr

/-! ### Frame timer (chapter 3) -/

/-- The frame timer. `noGuard` is set from a reset to the first frame start (R21). -/
structure FrameTimer where
  frame : Frame
  elapsed : Ticks
  period : Half
  noGuard : Bool
  driving : Bool
  driveElapsed : Ticks
  earlyStrobes : Byte
  openSlot : Option Position
  nextSlot : Nat
  ownOpened : Bool
  deriving DecidableEq, Repr

/-! ### Schedule (chapter 6) -/

/-- A record held in the pending list (R80). -/
structure HeldRecord where
  change : Change
  eff : Frame
  origin : Position
  seq : SeqNum
  deriving DecidableEq, Repr

/-- The schedule. -/
structure Schedule where
  list : List HeldRecord
  dropBound : Option Frame
  outOfWindow : Byte
  deriving DecidableEq, Repr

/-! ### Object store (chapter 7) -/

/-- The cursor look (Table 7-1). -/
structure CursorLook where
  visible : Bool
  colourA : RGB
  colourB : RGB
  deriving DecidableEq, Repr

/-- The shared objects (Table 7-1). An absent window is `none`. -/
structure Objects where
  palette : Vector RGB 256
  look : CursorLook
  image : Vector CursorBytes 32
  curX : Half
  curY : Half
  windows : Vector (Option Window) 8
  background : Byte
  deriving DecidableEq, Repr

/-! ### Show controller (chapter 8) -/

/-- Stop modes (R115). -/
inductive StopMode where
  | keep | blank
  deriving DecidableEq, Repr

/-- The show state with its argument (R115). -/
inductive ShowState where
  | stopped (mode : StopMode)
  | running
  | held
  | paced (factor : Nat)
  deriving DecidableEq, Repr

/-- Source control words (8.5, 13.5). -/
inductive SourceWord where
  | null | start | hold | advance | resume | stopKeep | stopBlank
  deriving DecidableEq, Repr

/-- The show controller. -/
structure ShowControl where
  state : ShowState
  countdown : Nat
  transition : SourceWord
  deferred : Option SourceWord
  lastWord : SourceWord
  installPos : Option Frame
  deriving DecidableEq, Repr

/-! ### Snapshot unit (chapter 9) -/

/-- A snapshot image (R129). -/
abbrev Image := Vector Byte 1184

/-- The collection status (R135). -/
inductive Collection where
  | idle | waiting | collecting
  deriving DecidableEq, Repr

/-- The snapshot unit: source side, then joiner side. `streaming` is the stream status RUNNING. -/
structure Snapshot where
  streaming : Bool
  capture : Image
  streamFrame : Frame
  nextPart : Nat
  coll : Collection
  assembly : Image
  collFrame : Frame
  collSource : Position
  nextExpected : Nat
  eLost : Option Frame
  deriving DecidableEq, Repr

/-! ### Compositor (chapter 10) -/

/-- A rectangle [x0, x1) × [y0, y1) of the canvas or of the tile (1.5.3). -/
structure Rect where
  x0 : Int
  x1 : Int
  y0 : Int
  y1 : Int
  deriving DecidableEq, Repr

/-- A view entry (R151). -/
structure View where
  id : Fin 8
  source : BitVec 4
  clip : Rect
  originX : Int
  originY : Int
  deriving DecidableEq, Repr

/-- A cursor placement (R157). -/
structure Placement where
  startX : Int
  startY : Int
  presetX : Int
  presetY : Int
  extentW : Int
  extentH : Int
  deriving DecidableEq, Repr

/-- The compositor. `showing` is the output state SHOWING. -/
structure Compositor where
  tile : Rect
  views : List View
  qualifying : Nat
  overflow : Bool
  placement : Option Placement
  cursorOnTile : Bool
  hidden : Bool
  showing : Bool
  deriving DecidableEq, Repr

/-! ### Service controller (chapter 11) -/

/-- A debounced input: raw level, debounced value, debounce timer (stopped, or the time it has run) (R163). -/
structure DebouncedInput where
  raw : Bool
  value : Bool
  timer : Option Ticks
  deriving DecidableEq, Repr

/-- Power states (R166, R167). -/
inductive PowerState where
  | off | rising | on | falling | fault
  deriving DecidableEq, Repr

/-- LED states (R173). -/
inductive LedState where
  | off | on | blink
  deriving DecidableEq, Repr

/-- The pending service command (R170). -/
inductive ServiceCommand where
  | none | powerOn | powerOff
  deriving DecidableEq, Repr

/-- The last service outcome (R170). -/
inductive ServiceOutcome where
  | none | doneOn | doneOff | doneHeld | doneFault | doneLed
  deriving DecidableEq, Repr

/-- The service controller. -/
structure Service where
  presence : DebouncedInput
  latch : DebouncedInput
  button : DebouncedInput
  pgood : Bool
  request : Bool
  power : PowerState
  powerTimer : Option Ticks
  led : LedState
  blinkHigh : Bool
  blinkElapsed : Ticks
  follow : Bool
  command : ServiceCommand
  outcome : ServiceOutcome
  deriving DecidableEq, Repr

/-! ### Control port and interrupt unit (chapter 12) -/

/-- A transaction in progress (R177): READ or WRITE, register index, count of data bytes taken (a byte of a read counts from its start). -/
structure Transaction where
  read : Bool
  index : BitVec 7
  count : Nat
  deriving DecidableEq, Repr

/-- The control port (R177). `selected`: a fall of SPI_CS_N has come that no rise and no pin reset has followed. `transaction`: IDLE or
before the index byte (`none`), or in a transaction. `shift`: the bits of the byte under way, first bit first. `data`: the data bytes
clocked whole in this transaction. `out`: the bytes the read in progress returns. -/
structure Port where
  selected : Bool
  transaction : Option Transaction
  shift : List Bool
  data : List Byte
  out : List Byte
  deriving DecidableEq, Repr

/-- The WALL event set. -/
structure WallEvents where
  stateChanged : Bool
  rosterChanged : Bool
  resyncStarted : Bool
  snapshotAbandoned : Bool
  commandRefused : Bool
  writeIgnored : Bool
  deriving DecidableEq, Repr

/-- The SERVICE event set. -/
structure ServiceEvents where
  presenceChanged : Bool
  latchChanged : Bool
  buttonPressed : Bool
  powerFault : Bool
  serviceDone : Bool
  serviceBusy : Bool
  deriving DecidableEq, Repr

/-- The FRAME event set. -/
structure FrameEvents where
  frameStarted : Bool
  recordsApplied : Bool
  cursorTileChanged : Bool
  viewOverflow : Bool
  deriving DecidableEq, Repr

/-- The five enables, one for each interrupt source (R180). -/
structure Enables where
  fault : Bool
  wall : Bool
  receipt : Bool
  service : Bool
  frame : Bool
  deriving DecidableEq, Repr

end Sys2Proof.Machine
end

