-- ==== Sys2Proof/Machine/Operands.lean ====
section
/-! DEFINITION. The operand forms: frame arithmetic (1.5.2), byte order and the layouts of messages, records, the stage buffer
and the windows entry (chapter 13), the message check (R3, R4) and the validity of records (R64). -/

namespace Sys2Proof.Machine

/-! ### Tables -/

/-- The list f 0, …, f (n − 1), built from its front. -/
def tabulate {α : Type} : (n : Nat) → (Fin n → α) → List α
  | 0, _ => []
  | n + 1, f => f 0 :: tabulate n fun i => f i.succ

theorem tabulate_length {α : Type} : (n : Nat) → (f : Fin n → α) → (tabulate n f).length = n
  | 0, _ => rfl
  | n + 1, f => congrArg (· + 1) (tabulate_length n fun i => f i.succ)

/-- The table whose entry i is f i. -/
def table {α : Type} {n : Nat} (f : Fin n → α) : Vector α n := ⟨⟨tabulate n f⟩, tabulate_length n f⟩

/-! ### Numbers -/

/-- An 8-bit counter that stops at 255 (R5, R24, R86). -/
def satInc (c : Byte) : Byte := if c = 255 then c else c + 1

/-- Frame `a` is after frame `b` (1.5.2, R26). -/
def frameAfter (a b : Frame) : Bool := decide (1 ≤ (a - b).toNat ∧ (a - b).toNat ≤ 32767)

/-- The later of two frames, the first when neither is after the other (R87). -/
def laterFrame (a b : Frame) : Frame := if frameAfter b a then b else a

/-- Frame `f` + L (1.5.5). -/
def plusLead (f : Frame) (lead : Byte) : Frame := f + lead.setWidth 16

/-- The two bytes of a 16-bit field, low byte first (chapter 13). -/
def halfBytes (h : Half) : List Byte := [h.extractLsb' 0 8, h.extractLsb' 8 8]

/-- The 16-bit field of a low and a high byte. -/
def halfOf (low high : Byte) : Half := high ++ low

/-- Red, green, blue. -/
def rgbBytes (c : RGB) : List Byte := [c.r, c.g, c.b]

/-- The low and the high four bits of a byte. -/
def lowNibble (b : Byte) : BitVec 4 := b.extractLsb' 0 4

/-- The high four bits of a byte. -/
def highNibble (b : Byte) : BitVec 4 := b.extractLsb' 4 4

/-- A byte of two nibbles. -/
def nibbles (low high : BitVec 4) : Byte := high ++ low

/-- A Bool as the byte 0 or 1 (NO, YES). -/
def flagByte (b : Bool) : Byte := if b then 1 else 0

/-! ### The check field (R3) -/

/-- One bit of the CRC-16 with polynomial 1021h. -/
def crcBit (crc : BitVec 16) : BitVec 16 :=
  if crc.msb then (crc <<< 1) ^^^ 0x1021#16 else crc <<< 1

/-- `n` bits of the CRC. -/
def crcBits : Nat → BitVec 16 → BitVec 16
  | 0, crc => crc
  | n + 1, crc => crcBits n (crcBit crc)

/-- One byte of the CRC, taken high bit first. -/
def crcByte (crc : BitVec 16) (b : Byte) : BitVec 16 := crcBits 8 (crc ^^^ (b.setWidth 16 <<< 8))

/-- The CRC-16 of header and body: it starts from FFFFh and has no final inversion (R3). -/
def crc16 (bytes : List Byte) : BitVec 16 := bytes.foldl crcByte 0xFFFF#16

/-! ### Change records (Tables 13-3, 5-1) -/

/-- The kind code of a record (13.2). -/
def kindCode : RecordKind → Byte
  | .palette => 1
  | .cursorMove => 2
  | .cursorLook => 3
  | .cursorRow => 4
  | .window => 5
  | .background => 6
  | .showRec => 7

/-- The fields of a present window from bus byte 4 on (Table 13-3). -/
def windowFieldBytes (w : Window) : List Byte :=
  nibbles w.source w.layer :: (halfBytes w.x ++ halfBytes w.y ++ halfBytes w.width ++ halfBytes w.height
    ++ halfBytes w.panX ++ halfBytes w.panY)

/-- The bytes of a change from bus byte 3 on (Table 13-3). -/
def changeBytes : Change → List Byte
  | .palette i c => i :: rgbBytes c
  | .cursorMove x y => halfBytes x ++ halfBytes y
  | .cursorLook v a b => v :: (rgbBytes a ++ rgbBytes b)
  | .cursorRow r codes => r :: codes.toList
  | .windowAbsent id => [nibbles id 0]
  | .windowPresent id flag w => nibbles id flag :: windowFieldBytes w
  | .background i => [i]
  | .showRec c a => [c, a]

/-- A record on the bus: the common header, then the fields of its kind (13.2). -/
def recordBytes (c : Change) (eff : Frame) : List Byte := kindCode c.kind :: (halfBytes eff ++ changeBytes c)

/-- One record at the head of a byte list, and the bytes after it; none for an undefined kind or a list too short (R190). -/
def takeRecord : List Byte → Option ((Change × Frame) × List Byte)
  | k :: e0 :: e1 :: fields =>
    let eff := halfOf e0 e1
    match k.toNat, fields with
    | 1, i :: r :: g :: b :: rest => some ((.palette i ⟨r, g, b⟩, eff), rest)
    | 2, x0 :: x1 :: y0 :: y1 :: rest => some ((.cursorMove (halfOf x0 x1) (halfOf y0 y1), eff), rest)
    | 3, v :: ar :: ag :: ab :: br :: bg :: bb :: rest => some ((.cursorLook v ⟨ar, ag, ab⟩ ⟨br, bg, bb⟩, eff), rest)
    | 4, r :: c0 :: c1 :: c2 :: c3 :: c4 :: c5 :: c6 :: c7 :: rest =>
      some ((.cursorRow r #v[c0, c1, c2, c3, c4, c5, c6, c7], eff), rest)
    | 5, w :: rest =>
      if highNibble w = 0 then some ((.windowAbsent (lowNibble w), eff), rest)
      else
        match rest with
        | sl :: x0 :: x1 :: y0 :: y1 :: w0 :: w1 :: h0 :: h1 :: p0 :: p1 :: q0 :: q1 :: rest' =>
          some ((.windowPresent (lowNibble w) (highNibble w)
            ⟨lowNibble sl, highNibble sl, halfOf x0 x1, halfOf y0 y1, halfOf w0 w1, halfOf h0 h1, halfOf p0 p1, halfOf q0 q1⟩,
            eff), rest')
        | _ => none
    | 6, i :: rest => some ((.background i, eff), rest)
    | 7, c :: a :: rest => some ((.showRec c a, eff), rest)
    | _, _ => none
  | _ => none

/-- The walk of a CHANGES body, record by record, with at most `n` records (R190). -/
def walkRecords : Nat → List Byte → Option (List (Change × Frame))
  | _, [] => some []
  | 0, _ :: _ => none
  | n + 1, bytes =>
    match takeRecord bytes with
    | none => none
    | some (r, rest) => (walkRecords n rest).map (r :: ·)

/-! ### Messages (Tables 13-1, 13-2; R3, R4, R190) -/

/-- The station state code (Table 13-6). -/
def stationCode : StationState → BitVec 3
  | .offline => 0
  | .listening => 1
  | .joining => 2
  | .member => 3
  | .leaving => 4
  | .fault => 5
  | .loopback => 6

/-- The join reason code of a JOIN body (Table 13-2) and of STATION_STATUS. -/
def joinCode : JoinReason → Byte
  | .none => 0
  | .new => 1
  | .resync => 2

/-- The sender state a kind must carry (Table 2-1). -/
def Body.senderState : Body → StationState
  | .join _ => .joining
  | .leave _ => .leaving
  | .changes _ | .part _ _ _ _ | .idle => .member

/-- The kind byte (Table 13-1). -/
def Body.kindByte : Body → Byte
  | .join _ => 1
  | .leave _ => 2
  | .changes _ => 3
  | .part _ _ _ _ => 4
  | .idle => 5

/-- The body bytes (Table 13-2). -/
def Body.bytes : Body → List Byte
  | .join reason => [joinCode reason]
  | .leave f => halfBytes f
  | .changes records => records.flatMap fun r => recordBytes r.1 r.2
  | .part f index count data => halfBytes f ++ [index, count] ++ data
  | .idle => []

/-- Whether a member set holds a position (Table 13-1). -/
def inSet (members : BitVec 16) (p : Position) : Bool := members.getLsbD p.val

/-- Header and body of a message (13.1). -/
def messageCore (m : Message) : List Byte :=
  [nibbles (BitVec.ofNat 4 m.sender.val) ((stationCode m.state).setWidth 4), m.body.kindByte]
    ++ halfBytes m.frame ++ halfBytes m.members ++ [m.mark, BitVec.ofNat 8 m.body.bytes.length] ++ m.body.bytes

/-- A message as it is sent: header, body, check field low byte first (R3). -/
def messageBytes (m : Message) : List Byte := messageCore m ++ halfBytes (crc16 (messageCore m))

/-- The body of a kind, when it is well formed (Table 2-1; `frame` is the header frame number). -/
def parseBody (kind : Byte) (frame : Frame) (body : List Byte) : Option Body :=
  match kind.toNat, body with
  | 1, [r] => if r = 1 then some (.join .new) else if r = 2 then some (.join .resync) else none
  | 2, [f0, f1] => if frameAfter (halfOf f0 f1) frame then some (.leave (halfOf f0 f1)) else none
  | 3, bytes =>
    match walkRecords Config.recordsPerMessage bytes with
    | some (r :: rs) => some (.changes (r :: rs))
    | _ => none
  | 4, f0 :: f1 :: index :: count :: data =>
    if 1 ≤ data.length ∧ data.length ≤ 64 then some (.part (halfOf f0 f1) index count data) else none
  | 5, [] => some .idle
  | _, _ => none

/-- The valid message that an attempt of slot `slot` carries, or none: checks 1 to 6 of R3. -/
def parseMessage (slot : Position) (bytes : List Byte) : Option Message :=
  match bytes with
  | b0 :: kind :: f0 :: f1 :: m0 :: m1 :: mark :: len :: rest =>
    let body := rest.take len.toNat
    let frame := halfOf f0 f1
    let members := halfOf m0 m1
    if len.toNat ≤ Config.maxBody ∧ rest.length = len.toNat + 2
        ∧ rest.drop len.toNat = halfBytes (crc16 (bytes.take (8 + len.toNat)))
        ∧ (lowNibble b0).toNat = slot.val then
      match parseBody kind frame body with
      | none => none
      | some b =>
        if b0.extractLsb' 4 3 = stationCode b.senderState
            ∧ inSet members slot = (b.senderState == .member) then
          some ⟨slot, b.senderState, frame, members, mark, b⟩
        else none
    else none
  | _ => none

/-! ### The attempt (R2) -/

/-- How far a reception attempt is after a byte. -/
inductive AttemptEnd where
  | unfinished | invalid | complete
  deriving DecidableEq, Repr

/-- What the bytes collected so far make of the attempt (R2): a body length over 72 ends it as invalid when the header is
complete, and 8 + body length + 2 bytes complete it. -/
def attemptEnd (bytes : List Byte) : AttemptEnd :=
  match bytes[7]? with
  | none => .unfinished
  | some len =>
    if Config.maxBody < len.toNat then .invalid
    else if 8 + len.toNat + 2 ≤ bytes.length then .complete else .unfinished

/-- The bytes of a run taken one at a time until the attempt ends; the receiver pays no attention to the rest (R2). -/
def takeBytes (buffer : List Byte) : List Byte → List Byte × AttemptEnd
  | [] => (buffer, .unfinished)
  | b :: rest =>
    match attemptEnd (buffer ++ [b]) with
    | .unfinished => takeBytes (buffer ++ [b]) rest
    | e => (buffer ++ [b], e)

/-- A run of bytes, and then a byte without its stop bit when `stopBit` is false: that ends an unfinished attempt as invalid
(R2). -/
def takeRun (buffer bytes : List Byte) (stopBit : Bool) : List Byte × AttemptEnd :=
  match takeBytes buffer bytes with
  | (buf, .unfinished) => (buf, if stopBit then .unfinished else .invalid)
  | r => r

/-! ### Geometry and validity (R64, Table 5-2) -/

/-- Columns, rows and tile size of the station (1.5.3). -/
structure Geometry where
  cols : Nat
  rows : Nat
  tileW : Nat
  tileH : Nat
  deriving DecidableEq, Repr

/-- The number of columns: the value of the pins plus 1 (R36). -/
def Straps.columns (p : Straps) : Nat := p.colPins.val + 1

/-- The number of rows: the value of the pins plus 1 (R36). -/
def Straps.rowCount (p : Straps) : Nat := p.rowPins.val + 1

/-- The station's geometry, from the straps and CONFIG_TILE (R64). -/
def geometryOf (p : Straps) (c : Configuration) : Geometry := ⟨p.columns, p.rowCount, c.tileW.toNat, c.tileH.toNat⟩

/-- Canvas width in pixels. -/
def Geometry.canvasW (g : Geometry) : Nat := g.cols * g.tileW

/-- Canvas height in pixels. -/
def Geometry.canvasH (g : Geometry) : Nat := g.rows * g.tileH

/-- The strap check of JOIN and LOOPBACK (R36): columns × rows not above 16, position below it. -/
def strapsPass (p : Straps) : Bool := decide (p.columns * p.rowCount ≤ 16 ∧ p.pos.val < p.columns * p.rowCount)

/-- The conditions of Table 5-2 on the fields of a present window. -/
def windowValid (g : Geometry) (w : Window) : Bool :=
  decide (w.source.toNat ≤ 7 ∧ w.layer.toNat ≤ 7 ∧ 0 ≤ w.x.toInt ∧ 0 ≤ w.y.toInt ∧ 8 ≤ w.width.toNat ∧ 8 ≤ w.height.toNat
    ∧ w.x.toInt + w.width.toNat ≤ g.canvasW ∧ w.y.toInt + w.height.toNat ≤ g.canvasH
    ∧ w.panX.toNat ≤ 4095 ∧ w.panY.toNat ≤ 4095)

/-- The range of a cursor coordinate on a canvas of that extent (Table 5-1). -/
def cursorCoordValid (extent : Nat) (v : Half) : Bool := decide (-31 ≤ v.toInt ∧ v.toInt ≤ (extent : Int) - 1)

/-- The argument a SHOW command takes (Table 5-1; codes of Table 13-3): the command is one of six. -/
def showFieldsValid (command argument : Byte) : Bool :=
  match command.toNat with
  | 1 | 2 | 3 | 5 => argument == 0
  | 4 => decide (2 ≤ argument.toNat ∧ argument.toNat ≤ 8)
  | 6 => decide (argument.toNat ≤ 1)
  | _ => false

/-- A record's validity (R64, Table 5-2). -/
def changeValid (g : Geometry) : Change → Bool
  | .palette _ _ => true
  | .cursorMove x y => cursorCoordValid g.canvasW x && cursorCoordValid g.canvasH y
  | .cursorLook v _ _ => decide (v.toNat ≤ 1)
  | .cursorRow r _ => decide (r.toNat ≤ 31)
  | .windowAbsent id => decide (id.toNat ≤ 7)
  | .windowPresent id flag w => decide (id.toNat ≤ 7 ∧ flag = 1) && windowValid g w
  | .background _ => true
  | .showRec c a => showFieldsValid c a

/-! ### The stage buffer (R191) -/

/-- The change a stage buffer holds, by the kind code of its byte 0; none for a code of 0 or 8-255. A present window's pans
are the two 12-bit halves of stage bytes 11-13. -/
def stagedChange (t : Vector Byte 14) : Option Change :=
  match t[0].toNat with
  | 1 => some (.palette t[1] ⟨t[2], t[3], t[4]⟩)
  | 2 => some (.cursorMove (halfOf t[1] t[2]) (halfOf t[3] t[4]))
  | 3 => some (.cursorLook t[1] ⟨t[2], t[3], t[4]⟩ ⟨t[5], t[6], t[7]⟩)
  | 4 => some (.cursorRow t[1] #v[t[2], t[3], t[4], t[5], t[6], t[7], t[8], t[9]])
  | 5 =>
    if highNibble t[1] = 0 then some (.windowAbsent (lowNibble t[1]))
    else
      let pans : BitVec 24 := t[13] ++ (t[12] ++ t[11])
      some (.windowPresent (lowNibble t[1]) (highNibble t[1])
        ⟨lowNibble t[2], highNibble t[2], halfOf t[3] t[4], halfOf t[5] t[6], halfOf t[7] t[8], halfOf t[9] t[10],
          (pans.extractLsb' 0 12).setWidth 16, (pans.extractLsb' 12 12).setWidth 16⟩)
  | 6 => some (.background t[1])
  | 7 => some (.showRec t[1] t[2])
  | _ => none

/-! ### The windows entry (Table 13-5) -/

/-- The 16 bytes of a windows entry; an absent one is all 0 (R112, R192). -/
def windowEntryBytes : Option Window → List Byte
  | none => List.replicate 16 0
  | some w =>
    [1, w.source.setWidth 8, w.layer.setWidth 8, 0] ++ halfBytes w.x ++ halfBytes w.y ++ halfBytes w.width
      ++ halfBytes w.height ++ halfBytes w.panX ++ halfBytes w.panY

/-! ### Show codes (Tables 13-4, 13-6; 13.5) -/

/-- The show state code. -/
def showCode : ShowState → Byte
  | .stopped _ => 0
  | .running => 1
  | .held => 2
  | .paced _ => 3

/-- The show argument as wall header byte 11 codes it. -/
def showArgByte : ShowState → Byte
  | .stopped .keep => 0
  | .stopped .blank => 1
  | .running => 0
  | .held => 0
  | .paced n => BitVec.ofNat 8 n

/-- The code of a source control word. -/
def wordCode : SourceWord → Byte
  | .null => 0
  | .start => 1
  | .hold => 2
  | .advance => 3
  | .resume => 4
  | .stopKeep => 5
  | .stopBlank => 6

end Sys2Proof.Machine
end

