-- ==== Sys2Proof/Machine/Tiles.lean ====
section
/-! DEFINITION. What the compositor derives: the tile rectangle (R149), the view list (R150, R151), the cursor placement (R157)
and the recomputes (R152, R153, R158). -/

namespace Sys2Proof.Machine

/-- The intersection of two rectangles. -/
def Rect.inter (a b : Rect) : Rect := ⟨max a.x0 b.x0, min a.x1 b.x1, max a.y0 b.y0, min a.y1 b.y1⟩

/-- A rectangle excludes its right and bottom edges, so it is non-empty when both sides are positive (1.5.3). -/
def Rect.nonempty (r : Rect) : Bool := decide (r.x0 < r.x1 ∧ r.y0 < r.y1)

/-- A rectangle holds a point. -/
def Rect.holds (r : Rect) (u v : Int) : Bool := decide (r.x0 ≤ u ∧ u < r.x1 ∧ r.y0 ≤ v ∧ v < r.y1)

/-- The tile rectangle of a position (R149). -/
def tileRect (p : Straps) (c : Configuration) : Rect :=
  let col := p.pos.val % p.columns
  let row := p.pos.val / p.columns
  ⟨col * c.tileW.toNat, (col + 1) * c.tileW.toNat, row * c.tileH.toNat, (row + 1) * c.tileH.toNat⟩

/-- A window's rectangle on the canvas (R99). -/
def windowRect (w : Window) : Rect :=
  ⟨w.x.toInt, w.x.toInt + w.width.toNat, w.y.toInt, w.y.toInt + w.height.toNat⟩

/-- Step 1 of R150: the present windows that reach the tile, in id order. -/
def qualifying (tile : Rect) (windows : Vector (Option Window) 8) : List (Fin 8 × Window) :=
  (List.finRange 8).filterMap fun i =>
    match windows[i] with
    | none => none
    | some w => if ((windowRect w).inter tile).nonempty then some (i, w) else none

/-- A window takes its place behind every window of its layer or a higher one (R150 step 2). -/
def insertByLayer (x : Fin 8 × Window) : List (Fin 8 × Window) → List (Fin 8 × Window)
  | [] => [x]
  | y :: rest => if y.2.layer.toNat < x.2.layer.toNat then x :: y :: rest else y :: insertByLayer x rest

/-- Step 2 of R150: higher layer first, and within a layer lower id first. -/
def stackingOrder (q : List (Fin 8 × Window)) : List (Fin 8 × Window) := q.foldl (fun acc x => insertByLayer x acc) []

/-- The view entry of a window on a tile (R151). -/
def viewOf (tile : Rect) (i : Fin 8) (w : Window) : View :=
  let clip := (windowRect w).inter tile
  { id := i
    source := w.source
    clip := ⟨clip.x0 - tile.x0, clip.x1 - tile.x0, clip.y0 - tile.y0, clip.y1 - tile.y0⟩
    originX := w.panX.toNat + clip.x0 - w.x.toInt
    originY := w.panY.toNat + clip.y0 - w.y.toInt }

/-- Step 3 of R150: the first four windows in stacking order. -/
def deriveViews (tile : Rect) (windows : Vector (Option Window) 8) : List View :=
  ((stackingOrder (qualifying tile windows)).take Config.viewCapacity).map fun x => viewOf tile x.1 x.2

/-- The cursor's canvas square (R157). -/
def cursorRect (x y : Half) : Rect := ⟨x.toInt, x.toInt + 32, y.toInt, y.toInt + 32⟩

/-- The cursor placement on a tile (R157). -/
def placementOf (tile : Rect) (x y : Half) : Option Placement :=
  let part := (cursorRect x y).inter tile
  if part.nonempty then
    some ⟨part.x0 - tile.x0, part.y0 - tile.y0, part.x0 - x.toInt, part.y0 - y.toInt, part.x1 - part.x0, part.y1 - part.y0⟩
  else none

/-- Recompute of the view list (R150, R152, R153): the tile rectangle is taken afresh. -/
def recomputeViews (p : Straps) (c : Configuration) (o : Objects) (k : Compositor) : Compositor :=
  let tile := tileRect p c
  { k with
    tile := tile
    views := deriveViews tile o.windows
    qualifying := (qualifying tile o.windows).length
    overflow := decide (Config.viewCapacity < (qualifying tile o.windows).length) }

/-- Recompute of the cursor placement and the cursor-on-tile flag (R153, R157, R158). -/
def recomputeCursor (p : Straps) (c : Configuration) (o : Objects) (k : Compositor) : Compositor :=
  let tile := tileRect p c
  { k with
    tile := tile
    placement := placementOf tile o.curX o.curY
    cursorOnTile := o.look.visible && (placementOf tile o.curX o.curY).isSome }

/-- Whether the show state hides the windows (R155). -/
def hidesWindows : ShowState → Bool
  | .stopped .blank => true
  | .stopped .keep | .running | .held | .paced _ => false

end Sys2Proof.Machine
end

