-- ==== Sys2Proof/Machine/Defaults.lean ====
section
/-! DEFINITION. The values the blocks take at a reset (R19, R32, R61, R79, R98, R114, R128, R148, R162, R176, R189) and the
default objects and show state (R100, R115). -/

namespace Sys2Proof.Machine

/-- Entry i of the default palette is (i, i, i) (Table 7-2). -/
def defaultPalette : Vector RGB 256 :=
  table fun i => let v := BitVec.ofNat 8 i.val; ⟨v, v, v⟩

/-- A cursor row of transparent pixels. -/
def blankRow : CursorBytes := Vector.replicate 8 0

/-- The default objects (Table 7-2). -/
def defaultObjects : Objects where
  palette := defaultPalette
  look := ⟨false, ⟨0, 0, 0⟩, ⟨255, 255, 255⟩⟩
  image := Vector.replicate 32 blankRow
  curX := 0
  curY := 0
  windows := Vector.replicate 8 none
  background := 0

/-- The live palette entry at an index. -/
def paletteAt (p : Vector RGB 256) (i : Byte) : RGB := p[i.toNat]'i.isLt

/-- The straps sampled from the pins (R36, R61). -/
def strapsOf (pins : ResetPins) : Straps := ⟨pins.pos, pins.colPins, pins.rowPins⟩

/-- The configuration after a pin reset (R179). -/
def defaultConfiguration : Configuration :=
  { tileW := 1920, tileH := 1080, period := 16667, lead := 3, silence := 4, autoLeave := false }

/-- The wall bus interface after a reset (R19); the pin reset clears the counter, RESET_STATION keeps it. -/
def resetBus (badMessages : Byte) : Bus :=
  { txBuffer := [], rxBuffer := [], sending := false, sendElapsed := 0, awaiting := .none, readback := .none
    alternation := .other, runCount := 0, badMessages := badMessages, attempt := .off, delivered := false }

/-- The frame timer after a reset (R32): no guard and no slot until the first frame start (R21, R25). -/
def resetTimer (period : Half) (earlyStrobes : Byte) : FrameTimer :=
  { frame := 0, elapsed := 0, period := period, noGuard := true, driving := false, driveElapsed := 0
    earlyStrobes := earlyStrobes, openSlot := none, nextSlot := 0, ownOpened := false }

/-- The station controller after a reset (R61). -/
def resetController : Controller :=
  { state := .offline, faultReason := .none, joinReason := .none, resyncCause := .none, countdown := 0
    memberHeard := false, leaveFrame := none, requestedLeave := false }

/-- A cleared roster entry (R34). -/
def absentEntry : Entry := ⟨.absent, 0, none, none⟩

/-- A cleared roster (R34, R61). -/
def clearedRoster : Vector Entry 16 := Vector.replicate 16 absentEntry

/-- The submission unit after a reset (Table 5-4): the read sides are loaded from the default objects. -/
def resetSubmission : Submission :=
  { stage := Vector.replicate 14 0
    palWrite := ⟨0, .red, ⟨0, 0, 0⟩⟩
    palRead := ⟨0, .red, paletteAt defaultObjects.palette 0⟩
    curWrite := ⟨0, 0, blankRow⟩
    curRead := ⟨0, 0, defaultObjects.image[(0 : Fin 32)]⟩
    outbound := []
    ownSeq := 0
    receipts := []
    refused := false
    refusalReason := .none
    refusalPath := .none }

/-- The schedule after a reset (R98). -/
def resetSchedule (outOfWindow : Byte) : Schedule := ⟨[], none, outOfWindow⟩

/-- The show controller after a reset (R128). -/
def resetShow : ShowControl :=
  { state := .stopped .blank, countdown := 0, transition := .null, deferred := none, lastWord := .null, installPos := none }

/-- An image of zero bytes. -/
def zeroImage : Image := Vector.replicate 1184 0

/-- The snapshot unit after a reset (R148). -/
def resetSnapshot : Snapshot :=
  { streaming := false, capture := zeroImage, streamFrame := 0, nextPart := 0, coll := .idle, assembly := zeroImage
    collFrame := 0, collSource := 0, nextExpected := 0, eLost := none }

/-- The compositor after a reset (R162): empty view list, the cursor placement of the default position (0, 0) on the tile
then in force. -/
def resetCompositor (p : Straps) (c : Configuration) : Compositor :=
  { tile := tileRect p c, views := [], qualifying := 0, overflow := false
    placement := placementOf (tileRect p c) 0 0, cursorOnTile := false, hidden := true, showing := false }

/-- A debounced input at the release of RESET_N: the level of its raw line, no timer (R163, R176). -/
def settledInput (level : Bool) : DebouncedInput := ⟨level, level, none⟩

/-- The service controller after a pin reset (R176). -/
def resetService (pins : ResetPins) : Service :=
  { presence := settledInput pins.presence, latch := settledInput pins.latch, button := settledInput pins.button
    pgood := pins.pgood, request := false, power := .off, powerTimer := none, led := .off, blinkHigh := false
    blinkElapsed := 0, follow := false, command := .none, outcome := .none }

/-- A clear WALL event set. -/
def clearWall : WallEvents := ⟨false, false, false, false, false, false⟩

/-- A clear SERVICE event set. -/
def clearService : ServiceEvents := ⟨false, false, false, false, false, false⟩

/-- A clear FRAME event set. -/
def clearFrame : FrameEvents := ⟨false, false, false, false⟩

/-- The enables after a pin reset (R180). -/
def clearEnables : Enables := ⟨false, false, false, false, false⟩

/-- The port at rest (R177). -/
def idlePort : Port := { selected := false, transaction := none, shift := [], data := [], out := [] }

/-- The pins the model takes at power-up: straps of 0 and raw lines low (DESIGN CHOICE, unsafe, log 4). -/
def powerUpPins : ResetPins :=
  { pos := 0, colPins := 0, rowPins := 0, presence := false, latch := false, button := false, pgood := false }

end Sys2Proof.Machine
end

