-- ==== Sys2Proof/Machine/State.lean ====
section
/-! DEFINITION. The state of the part: the blocks of Table 1-2, the straps and the configuration, the event sets, and the queue
of commands that wait. -/

namespace Sys2Proof.Machine

/-- The event sets and the enables of the interrupt unit (chapter 12); `fault` is FAULT_ENTERED. -/
structure Events where
  fault : Bool
  wall : WallEvents
  service : ServiceEvents
  frame : FrameEvents
  enables : Enables
  deriving DecidableEq, Repr

/-- Every piece of state the manual gives the part, and `pending`, the commands waiting, first in first out (log 1). -/
structure State where
  straps : Straps
  cfg : Configuration
  bus : Bus
  timer : FrameTimer
  ctl : Controller
  roster : Vector Entry 16
  sub : Submission
  sched : Schedule
  obj : Objects
  shows : ShowControl
  snap : Snapshot
  comp : Compositor
  svc : Service
  port : Port
  events : Events
  pending : List Instr
  deriving DecidableEq, Repr

/-- What stops the machine: nothing. The manual names no event after which the part cannot go on; its own FAULT states are
next states (R53, R168). -/
inductive Fault
  deriving DecidableEq, Repr

/-- Why a command has no meaning. -/
inductive Refusal where
  /-- Raised by an arm of `exec` for a command that has no meaning yet (safe: nothing can be proved of it); no arm raises
  it now. -/
  | notModelled (mnemonic : String)
  deriving DecidableEq, Repr

/-- The events after a pin reset (R189). -/
def Events.clear : Events := ⟨false, clearWall, clearService, clearFrame, clearEnables⟩

/-- The part right after a pin reset with the given pins, and a queue of commands. -/
def State.afterPinReset (pins : ResetPins) (pending : List Instr) : State :=
  { straps := strapsOf pins
    cfg := defaultConfiguration
    bus := resetBus 0
    timer := resetTimer defaultConfiguration.period 0
    ctl := resetController
    roster := clearedRoster
    sub := resetSubmission
    sched := resetSchedule 0
    obj := defaultObjects
    shows := resetShow
    snap := resetSnapshot
    comp := resetCompositor (strapsOf pins) defaultConfiguration
    svc := resetService pins
    port := idlePort
    events := Events.clear
    pending := pending }

/-- The machine right after reset: a pin reset with the power-up pins of log 4, nothing waiting. -/
def State.reset : State := State.afterPinReset powerUpPins []

end Sys2Proof.Machine
end

