-- ==== Sys2Proof/Machine/Flags.lean ====
section
/-! DEFINITION. The event flags, the interrupt sources, IRQ_N and IRQ_IDENT (R183-R187, Table 13-7). -/

namespace Sys2Proof.Machine

/-! ### Raising an event: its flag is set and stays set until it is read (R183) -/

/-- FAULT_ENTERED. -/
def State.raiseFaultEntered (s : State) : State := { s with events.fault := true }

/-- STATE_CHANGED. -/
def State.raiseStateChanged (s : State) : State := { s with events.wall.stateChanged := true }

/-- ROSTER_CHANGED. -/
def State.raiseRosterChanged (s : State) : State := { s with events.wall.rosterChanged := true }

/-- COMMAND_REFUSED. -/
def State.raiseCommandRefused (s : State) : State := { s with events.wall.commandRefused := true }

/-- WRITE_IGNORED. -/
def State.raiseWriteIgnored (s : State) : State := { s with events.wall.writeIgnored := true }

/-! ### Bytes of the event registers (Table 13-7) -/

/-- The byte whose bits, from bit 0 on, are the flags of a list. -/
def bitsByte : List Bool → Byte
  | [] => 0
  | b :: rest => (bitsByte rest <<< 1) ||| flagByte b

/-- WALL_EVENTS. -/
def WallEvents.byte (e : WallEvents) : Byte :=
  bitsByte [e.stateChanged, e.rosterChanged, e.resyncStarted, e.snapshotAbandoned, e.commandRefused, e.writeIgnored]

/-- SERVICE_EVENTS. -/
def ServiceEvents.byte (e : ServiceEvents) : Byte :=
  bitsByte [e.presenceChanged, e.latchChanged, e.buttonPressed, e.powerFault, e.serviceDone, e.serviceBusy]

/-- FRAME_EVENTS. -/
def FrameEvents.byte (e : FrameEvents) : Byte :=
  bitsByte [e.frameStarted, e.recordsApplied, e.cursorTileChanged, e.viewOverflow]

/-- IRQ_ENABLE. -/
def Enables.byte (e : Enables) : Byte := bitsByte [e.fault, e.wall, e.receipt, e.service, e.frame]

/-- The enables of a written byte; bits that name no source are ignored (R180). -/
def enablesOf (v : Byte) : Enables := ⟨v.getLsbD 0, v.getLsbD 1, v.getLsbD 2, v.getLsbD 3, v.getLsbD 4⟩

/-! ### Sources (R183, R185) -/

/-- FAULT is pending while FAULT_ENTERED is set. -/
def State.faultPending (s : State) : Bool := s.events.fault

/-- WALL is pending while any of its six events is set. -/
def State.wallPending (s : State) : Bool :=
  s.events.wall.stateChanged || s.events.wall.rosterChanged || s.events.wall.resyncStarted
    || s.events.wall.snapshotAbandoned || s.events.wall.commandRefused || s.events.wall.writeIgnored

/-- RECEIPT is pending while the FIFO holds a receipt or SUBMIT_REFUSED is set (R185). -/
def State.receiptPending (s : State) : Bool := !s.sub.receipts.isEmpty || s.sub.refused

/-- SERVICE is pending while any of its six events is set. -/
def State.servicePending (s : State) : Bool :=
  s.events.service.presenceChanged || s.events.service.latchChanged || s.events.service.buttonPressed
    || s.events.service.powerFault || s.events.service.serviceDone || s.events.service.serviceBusy

/-- FRAME is pending while any of its four events is set. -/
def State.framePending (s : State) : Bool :=
  s.events.frame.frameStarted || s.events.frame.recordsApplied || s.events.frame.cursorTileChanged
    || s.events.frame.viewOverflow

/-- The code of the highest-priority source that is enabled and pending, 0 when there is none (R187). -/
def State.irqIdent (s : State) : Byte :=
  if s.events.enables.fault && s.faultPending then 1
  else if s.events.enables.wall && s.wallPending then 2
  else if s.events.enables.receipt && s.receiptPending then 3
  else if s.events.enables.service && s.servicePending then 4
  else if s.events.enables.frame && s.framePending then 5
  else 0

/-- IRQ_N is asserted while at least one enabled source is pending (R186). -/
def State.irqAsserted (s : State) : Bool :=
  (s.events.enables.fault && s.faultPending) || (s.events.enables.wall && s.wallPending)
    || (s.events.enables.receipt && s.receiptPending) || (s.events.enables.service && s.servicePending)
    || (s.events.enables.frame && s.framePending)

end Sys2Proof.Machine
end

