-- ==== Sys2Proof/Machine/Ops.lean ====
section
/-! DEFINITION. The named operations that several commands share: roster reads, receipts and credits, the change of station
state and what follows it at once, entry to OFFLINE and to FAULT, the resync, the recomputes of the compositor. -/

namespace Sys2Proof.Machine

/-! ### Station states -/

/-- JOINING, MEMBER and LEAVING: the station sends and drives WB_STROBE (R1, R22). -/
def transmits : StationState → Bool
  | .joining | .member | .leaving => true
  | .offline | .listening | .fault | .loopback => false

/-- The states in which an own-slot message is built: the transmitting states and LOOPBACK (R10, R18). -/
def buildsMessages : StationState → Bool
  | .joining | .member | .leaving | .loopback => true
  | .offline | .listening | .fault => false

/-- The states in which messages are delivered (R6). -/
def delivers : StationState → Bool
  | .listening | .joining | .member | .leaving => true
  | .offline | .fault | .loopback => false

/-- The states in which records are applied and the tile may show picture (Table 4-1, R90, R159). -/
def applies : StationState → Bool
  | .member | .leaving | .loopback => true
  | .offline | .listening | .joining | .fault => false

/-- The own position (R36). -/
def State.own (s : State) : Position := s.straps.pos

/-- L as configured. -/
def State.lead (s : State) : Byte := s.cfg.lead

/-- The frame number + L. -/
def State.frameLead (s : State) : Frame := plusLead s.timer.frame s.cfg.lead

/-- The station's geometry. -/
def State.geometry (s : State) : Geometry := geometryOf s.straps s.cfg

/-! ### Roster (R54, R60) -/

/-- The state of the own entry mirrors the station state (R54). -/
def ownEntryState : StationState → EntryState
  | .offline | .listening | .fault => .absent
  | .joining => .joining
  | .member | .loopback => .member
  | .leaving => .leaving

/-- The own entry: its miss count is 0, its expected sequence absent, and its leave frame is there in LEAVING only (R54). -/
def ownEntry (c : Controller) : Entry :=
  ⟨ownEntryState c.state, 0, none, if c.state = .leaving then c.leaveFrame else none⟩

/-- The roster entry of a position. -/
def State.entry (s : State) (p : Position) : Entry := if p = s.own then ownEntry s.ctl else s.roster[p]

/-- A peer's entry is replaced. -/
def State.setEntry (p : Position) (e : Entry) (s : State) : State := { s with roster := s.roster.set p e }

/-- The reference station: the lowest position whose entry is MEMBER (R60). -/
def State.reference (s : State) : Option Position :=
  (List.finRange 16).find? fun p => (s.entry p).state == .member

/-- The member set of an own message: the positions whose entries are MEMBER (R10). -/
def State.memberSet (s : State) : BitVec 16 :=
  (List.finRange 16).foldl (fun set p => if (s.entry p).state = .member then set ||| (1#16 <<< p.val) else set) 0

/-! ### Receipts, in-flight records and credits (R74-R78) -/

/-- The own in-flight records: those of the pending list whose origin is the own position (R74). -/
def State.inFlight (s : State) : Nat := (s.sched.list.filter fun r => r.origin == s.own).length

/-- Outbound, in-flight and unread together (R78). -/
def State.creditsUsed (s : State) : Nat := s.sub.outbound.length + s.inFlight + s.sub.receipts.length

/-- The credit count (R78). -/
def State.credits (s : State) : Nat := Config.creditTotal - s.creditsUsed

/-- The receipt of a held record with an outcome (R75, R91). -/
def receiptOf (r : HeldRecord) (outcome : ReceiptOutcome) : Receipt := ⟨r.seq, r.change.kind, outcome, some r.eff⟩

/-- The UNCERTAIN receipts of the own records among some held records, in their order (R97). -/
def uncertainReceipts (own : Position) (records : List HeldRecord) : List Receipt :=
  (records.filter fun r => r.origin == own).map fun r => receiptOf r .uncertain

/-- Receipts enter the tail of the FIFO (R76). -/
def State.addReceipts (rs : List Receipt) (s : State) : State := { s with sub.receipts := s.sub.receipts ++ rs }

/-- The pending list is cleared: own records leave with UNCERTAIN receipts, peers' without (R97). -/
def State.clearPendingList (s : State) : State :=
  { s with
    sub.receipts := s.sub.receipts ++ uncertainReceipts s.own s.sched.list
    sched.list := [] }

/-- The NOT_SENT receipts of outbound records and the own sequence counter after them: a BEING_SENT record keeps its number,
each WAITING record takes the counter and advances it (R75). -/
def notSentReceipts (seq : SeqNum) : List OutRecord → List Receipt × SeqNum
  | [] => ([], seq)
  | ⟨c, .beingSent n _⟩ :: rest =>
    (⟨n, c.kind, .notSent, none⟩ :: (notSentReceipts seq rest).1, (notSentReceipts seq rest).2)
  | ⟨c, .waiting⟩ :: rest =>
    (⟨seq, c.kind, .notSent, none⟩ :: (notSentReceipts (seq + 1) rest).1, (notSentReceipts (seq + 1) rest).2)

/-- The outbound queue is emptied with NOT_SENT receipts in queue order (R72, R75). -/
def State.clearOutbound (s : State) : State :=
  { s with
    sub.receipts := s.sub.receipts ++ (notSentReceipts s.sub.ownSeq s.sub.outbound).1
    sub.ownSeq := (notSentReceipts s.sub.ownSeq s.sub.outbound).2
    sub.outbound := [] }

/-! ### Change of station state (R33) -/

/-- The own message is cut off (R17): the pair is released, the readback attempt ends without a result, and a looped message is
discarded (R18). -/
def cutMessage (b : Bus) : Bus :=
  match b.awaiting with
  | .pair => { b with sending := false, awaiting := .none, attempt := .ended }
  | .looped => { b with sending := false, awaiting := .none }
  | .none => { b with sending := false }

/-- What the wall bus interface does on a change of station state: in a state that does not transmit the own message is cut off
and the run count returns to 0 (R16, R17). In LOOPBACK the receiver takes no attempts: one in progress ends there uncounted (R2,
R5, log 22). -/
def busOnState (new : StationState) (b : Bus) : Bus :=
  if transmits new then b
  else
    let cut := { cutMessage b with runCount := 0 }
    if new = .loopback then { cut with attempt := .off } else cut

/-- What the snapshot unit does on a change of station state: a stream runs in MEMBER only (R133), the collection waits in JOINING
and is IDLE elsewhere (R135), and E_lost is invalid in every state entered but JOINING (R136). -/
def snapOnState (new : StationState) (u : Snapshot) : Snapshot :=
  { u with
    streaming := u.streaming && new == .member
    coll := if new = .joining then .waiting else .idle
    eLost := if new = .joining then u.eLost else none }

/-- The station state changes: STATE_CHANGED is raised and each block acts on it at once (R33): the bus (R16, R17), the strobe
drive (R22), the snapshot unit (R133, R135, R136) and the output state (R159). -/
def State.changeState (new : StationState) (s : State) : State :=
  { s with
    ctl.state := new
    events.wall.stateChanged := true
    bus := busOnState new s.bus
    timer.driving := s.timer.driving && transmits new
    snap := snapOnState new s.snap
    comp.showing := s.comp.showing && applies new }

/-- The wall side is cleared (R34, R53): in-flight records get UNCERTAIN, then outbound records NOT_SENT, the pending list, the
queue and the roster are emptied, the countdown and the own leave frame are removed, and the deferred word is STOP_BLANK
(R123). -/
def State.clearWallSide (s : State) : State :=
  let s' := s.clearPendingList.clearOutbound
  { s' with
    roster := clearedRoster
    ctl.countdown := 0
    ctl.leaveFrame := none
    ctl.requestedLeave := false
    shows.deferred := some .stopBlank }

/-- Entry to OFFLINE (R34). -/
def State.enterOffline (s : State) : State :=
  let s' := s.clearWallSide.changeState .offline
  { s' with ctl.memberHeard := false }

/-- Entry to FAULT with a reason (R53). -/
def State.enterFault (reason : FaultReason) (s : State) : State :=
  let s' := s.clearWallSide.changeState .fault
  { s' with ctl.faultReason := reason, events.fault := true }

/-- A resync of a MEMBER station (R45, Table 4-3): JOINING with reason RESYNC and the trigger's cause; E_lost is the frame
number that stands (current or adopted) + L, and no word is deferred (R124). -/
def State.resync (cause : ResyncCause) (s : State) : State :=
  let s' := s.changeState .joining
  { s' with
    ctl.joinReason := .resync
    ctl.resyncCause := cause
    events.wall.resyncStarted := true
    snap.eLost := some s.frameLead
    shows.deferred := none }

/-- A frame number is adopted at once; it is no frame start (R27). -/
def State.adopt (f : Frame) (s : State) : State := { s with timer.frame := f }

/-- A collection in progress is abandoned with SNAPSHOT_ABANDONED; in WAITING and IDLE nothing happens (R139-R141). -/
def State.abandon (s : State) : State :=
  if s.snap.coll = .collecting then
    { s with snap.coll := .waiting, events.wall.snapshotAbandoned := true }
  else s

/-! ### The LED and the auto-leave reports (R173, R174) -/

/-- The LED state is set; a blink starts high when BLINK is entered (R173, log 14). -/
def setLed (led : LedState) (v : Service) : Service :=
  if led = .blink ∧ v.led ≠ .blink then { v with led := .blink, blinkHigh := true, blinkElapsed := 0 }
  else { v with led := led }

/-- The report that a requested leave has begun: BLINK, and the follow flag set (R174). -/
def reportLeaveBegun (v : Service) : Service := { setLed .blink v with follow := true }

/-- The report that a requested leave has reached OFFLINE: ON when the follow flag is set, and the flag cleared (R174). -/
def reportLeaveDone (v : Service) : Service :=
  { (if v.follow then setLed .on v else v) with follow := false }

/-! ### Recomputes of the compositor (R152, R153, R158) -/

/-- The view list is recomputed; VIEW_OVERFLOW is raised when the flag becomes set (R152). -/
def State.refreshViews (s : State) : State :=
  let k := recomputeViews s.straps s.cfg s.obj s.comp
  { s with
    comp := k
    events.frame.viewOverflow := s.events.frame.viewOverflow || (k.overflow && !s.comp.overflow) }

/-- The cursor placement is recomputed; CURSOR_TILE_CHANGED is raised when the flag changes (R158). -/
def State.refreshCursor (s : State) : State :=
  let k := recomputeCursor s.straps s.cfg s.obj s.comp
  { s with
    comp := k
    events.frame.cursorTileChanged := s.events.frame.cursorTileChanged || (k.cursorOnTile != s.comp.cursorOnTile) }

/-- The object store's report (R108): the view list is recomputed first, then the cursor placement (R153). -/
def State.reportObjects (windows cursor : Bool) (s : State) : State :=
  let s' := if windows then s.refreshViews else s
  if cursor then s'.refreshCursor else s'

/-- The show controller's report to the compositor (R127, R155). -/
def State.reportShow (s : State) : State := { s with comp.hidden := hidesWindows s.shows.state }

/-- The object store and the show controller take their defaults (R100, R115), the show controller defers STOP_BLANK (R122), and
the compositor recomputes from them (R153). -/
def State.takeDefaults (s : State) : State :=
  let s' : State :=
    { s with
      obj := defaultObjects
      shows.state := .stopped .blank
      shows.countdown := 0
      shows.deferred := some .stopBlank }
  (s'.reportObjects true true).reportShow

end Sys2Proof.Machine
end

