-- ==== Sys2Proof/Machine/ObjectStore.lean ====
section
/-! DEFINITION. The object store: what a valid record of each kind does to the shared objects, and the judgement at apply
(R101-R106). -/

namespace Sys2Proof.Machine

/-- The effect of a valid record on the objects (R103-R106). -/
def writeObject (c : Change) (o : Objects) : Objects :=
  match c with
  | .palette i colour => { o with palette := o.palette.set i.toNat colour i.isLt }
  | .cursorMove x y => { o with curX := x, curY := y }
  | .cursorLook v a b => { o with look := ⟨v == 1, a, b⟩ }
  | .cursorRow r codes => if h : r.toNat < 32 then { o with image := o.image.set r.toNat codes } else o
  | .windowAbsent id => if h : id.toNat < 8 then { o with windows := o.windows.set id.toNat none } else o
  | .windowPresent id _ w => if h : id.toNat < 8 then { o with windows := o.windows.set id.toNat (some w) } else o
  | .background i => { o with background := i }
  | .showRec _ _ => o

/-- The judgement at apply: a valid record replaces the fields it names and is APPLIED, another leaves the objects as they were
and is REJECTED_FIELD (R101, R102). -/
def applyObject (g : Geometry) (c : Change) (o : Objects) : Objects × ReceiptOutcome :=
  if changeValid g c then (writeObject c o, .applied) else (o, .rejectedField)

/-- Whether an APPLIED record makes the compositor recompute its view list (R108). -/
def changesWindows : Change → Bool
  | .windowAbsent _ | .windowPresent _ _ _ => true
  | .palette _ _ | .cursorMove _ _ | .cursorLook _ _ _ | .cursorRow _ _ | .background _ | .showRec _ _ => false

/-- Whether an APPLIED record makes the compositor recompute the cursor placement (R108). -/
def changesCursor : Change → Bool
  | .cursorMove _ _ | .cursorLook _ _ _ => true
  | .palette _ _ | .cursorRow _ _ | .windowAbsent _ | .windowPresent _ _ _ | .background _ | .showRec _ _ => false

end Sys2Proof.Machine
end

