-- ==== Sys2Proof/Machine/ShowController.lean ====
section
/-! DEFINITION. The show controller: Table 8-1, the judgement of a SHOW record (R116, R117), the pacing step (R118), the choice
of the word (R121) and the walk of an install (R125, R126). -/

namespace Sys2Proof.Machine

/-- Table 8-1: the show state and transition word of a command that the show state allows, or none for "rej". The command and
argument codes are those of Table 13-3. -/
def showTable (command argument : Byte) (st : ShowState) : Option (ShowState × SourceWord) :=
  match command.toNat, st with
  | 1, .stopped _ => some (.running, .start)
  | 2, .running => some (.held, .hold)
  | 2, .paced _ => some (.held, .hold)
  | 3, .held => some (.held, .advance)
  | 3, .paced _ => some (.held, .advance)
  | 4, .running => some (.paced argument.toNat, .hold)
  | 4, .held => some (.paced argument.toNat, .null)
  | 4, .paced _ => some (.paced argument.toNat, .null)
  | 5, .held => some (.running, .resume)
  | 5, .paced _ => some (.running, .resume)
  | 6, .stopped _ => none
  | 6, _ => if argument = 0 then some (.stopped .keep, .stopKeep) else some (.stopped .blank, .stopBlank)
  | _, _ => none

/-- The countdown that goes with the entry to a show state (R117). -/
def entryCountdown : ShowState → Nat
  | .paced n => n
  | .stopped _ | .running | .held => 0

/-- The judgement of a SHOW record in two steps, fields and order (R116). -/
def judgeShow (command argument : Byte) (k : ShowControl) : ShowControl × ReceiptOutcome :=
  if showFieldsValid command argument then
    match showTable command argument k.state with
    | none => (k, .rejectedOrder)
    | some (st, word) => ({ k with state := st, countdown := entryCountdown st, transition := word }, .applied)
  else (k, .rejectedField)

/-- The pacing step (R118): in PACED the countdown falls, and at 0 it returns to the factor with ADVANCE. -/
def pacingStep (k : ShowControl) : ShowControl :=
  match k.state with
  | .paced n =>
    if k.countdown - 1 = 0 then { k with countdown := n, transition := .advance }
    else { k with countdown := k.countdown - 1 }
  | .stopped _ | .running | .held => k

/-- The word of the frame start is chosen and sent (R120, R121): the transition word, else the deferred word, else NULL; a
deferred word is sent or discarded. The manual gives SRC_CTL no rate, so the word counts as sent whole at the frame start and no word is
ever under way between events (DESIGN CHOICE, log 29). -/
def sendWord (k : ShowControl) : ShowControl :=
  { k with
    lastWord := if k.transition = .null then k.deferred.getD .null else k.transition
    deferred := none }

/-- A frame start with no show work: the transition word is NULL and the deferred word goes (R119). -/
def sendDeferred (k : ShowControl) : ShowControl := sendWord { k with transition := .null }

/-- `n` pacing steps of an install; their words are not sent, so the transition word stays (R125). -/
def silentSteps : Nat → ShowControl → ShowControl
  | 0, k => k
  | n + 1, k => silentSteps n { pacingStep k with transition := k.transition }

/-- The frames after the install position and before frame `g` (R125), counted modulo 65536. R125 is silent where the position is after the
current frame, which R137 lets through: there the count goes round the frame numbers (DESIGN CHOICE, log 33). -/
def framesBefore (k : ShowControl) (g : Frame) : Nat :=
  match k.installPos with
  | none => 0
  | some p => (g - p).toNat - 1

/-- The frames after the install position and not after frame `g` (R125, R146), counted modulo 65536: (g - position) mod 65536 steps. With
a stream frame after the current frame, of which R125 and R146 say nothing, the count goes round the frame numbers (DESIGN CHOICE, log
33). -/
def framesUpTo (k : ShowControl) (g : Frame) : Nat :=
  match k.installPos with
  | none => 0
  | some p => (g - p).toNat

/-- A SHOW record of an install, due at frame `g`: the steps of the frames before it, its judgement, and the step of frame `g`
when it is rejected; no word is sent (R125). -/
def judgeInstalled (command argument : Byte) (g : Frame) (k : ShowControl) : ShowControl × ReceiptOutcome :=
  let stepped := silentSteps (framesBefore k g) k
  let judged := judgeShow command argument stepped
  let after := if judged.2 = .applied then judged.1 else silentSteps 1 judged.1
  ({ after with transition := k.transition, installPos := some g }, judged.2)

/-- The install words (Table 8-2). -/
def installWord : ShowState → SourceWord
  | .stopped .keep => .stopKeep
  | .stopped .blank => .stopBlank
  | .running => .start
  | .held => .hold
  | .paced _ => .hold

/-- The end of an install at frame `g`: the last steps, the install word, no install position (R125, R126). -/
def endInstall (g : Frame) (k : ShowControl) : ShowControl :=
  let stepped := silentSteps (framesUpTo k g) k
  { stepped with installPos := none, deferred := some (installWord stepped.state) }

end Sys2Proof.Machine
end

