-- ==== Sys2Proof/Machine/PendingSchedule.lean ====
section
/-! DEFINITION. The schedule: list order and room (R80, R81), the window check (R86), discards (R87), apply at a frame start with
the one-SHOW rule (R90-R93), and the drop of LISTENING and JOINING (R94). -/

namespace Sys2Proof.Machine

/-- Whether a held record stands behind a new one: due later, or due alike with a higher origin (R80). -/
def standsBehind (x new : HeldRecord) : Bool :=
  frameAfter x.eff new.eff || (x.eff == new.eff && decide (new.origin < x.origin))

/-- A record takes its place in list order; among records of one frame and one origin it comes last (R80). -/
def insertHeld (new : HeldRecord) : List HeldRecord → List HeldRecord
  | [] => [new]
  | x :: rest => if standsBehind x new then new :: x :: rest else x :: insertHeld new rest

/-- A record finds room when the list holds fewer than 48 and none of the same origin and number (R81). -/
def hasRoom (new : HeldRecord) (list : List HeldRecord) : Bool :=
  decide (list.length < Config.pendingCapacity) && list.all fun x => !(x.origin == new.origin && x.seq == new.seq)

/-- The window check (R86). -/
def inWindow (frame : Frame) (lead : Byte) (eff : Frame) : Bool := decide ((eff - frame).toNat = lead.toNat)

/-- A record is discarded for lack of room (R87): an own record gets DISCARDED_FULL; in LISTENING and JOINING E_lost moves, and
in JOINING a collection is abandoned first. -/
def State.discardRecord (r : HeldRecord) (s : State) : State :=
  let receipted := if r.origin = s.own then s.addReceipts [receiptOf r .discardedFull] else s
  match s.ctl.state with
  | .joining =>
    let a := receipted.abandon
    { a with snap.eLost := some ((a.snap.eLost.map fun e => laterFrame e r.eff).getD r.eff) }
  | .listening =>
    { receipted with snap.eLost := some ((receipted.snap.eLost.map fun e => laterFrame e r.eff).getD r.eff) }
  | .offline | .member | .leaving | .fault | .loopback => receipted

/-- A record that has its number arrives at the schedule: the window check, then the room check (R86, R87). -/
def State.acceptRecord (r : HeldRecord) (s : State) : State :=
  if inWindow s.timer.frame s.cfg.lead r.eff then
    if hasRoom r s.sched.list then { s with sched.list := insertHeld r s.sched.list }
    else s.discardRecord r
  else { s with sched.outOfWindow := satInc s.sched.outOfWindow }

/-! ### Apply (R90-R92) -/

/-- What an apply has done so far: objects, show controller, the frame whose first SHOW record was dispatched, whether one was
APPLIED, which parts of the compositor must recompute, and the receipts of own records. -/
structure ApplyRun where
  obj : Objects
  shows : ShowControl
  showFrame : Option Frame
  showApplied : Bool
  windows : Bool
  cursor : Bool
  receipts : List Receipt
  deriving DecidableEq, Repr

/-- An apply that begins. -/
def ApplyRun.begin (o : Objects) (k : ShowControl) : ApplyRun := ⟨o, k, none, false, false, false, []⟩

/-- The outcome of a record: a receipt when its origin is the own position (R91). -/
def ApplyRun.settle (own : Position) (r : HeldRecord) (outcome : ReceiptOutcome) (run : ApplyRun) : ApplyRun :=
  if r.origin = own then { run with receipts := run.receipts ++ [receiptOf r outcome] } else run

/-- A record dispatched to the object store (R91, R101, R108). -/
def ApplyRun.store (g : Geometry) (own : Position) (r : HeldRecord) (run : ApplyRun) : ApplyRun :=
  let res := applyObject g r.change run.obj
  { run with
    obj := res.1
    windows := run.windows || (res.2 == ReceiptOutcome.applied && changesWindows r.change)
    cursor := run.cursor || (res.2 == ReceiptOutcome.applied && changesCursor r.change) }.settle own r res.2

/-- A record taken at a frame start (R91, R92). -/
def dispatchAtFrame (g : Geometry) (own : Position) (run : ApplyRun) (r : HeldRecord) : ApplyRun :=
  match r.change with
  | .showRec c a =>
    if run.showFrame = some r.eff then run.settle own r .rejectedConflict
    else
      let res := judgeShow c a run.shows
      { run with shows := res.1, showFrame := some r.eff, showApplied := res.2 == ReceiptOutcome.applied }.settle own r res.2
  | _ => run.store g own r

/-- A record of the deferred apply of an install (R92, R96, R125). -/
def dispatchAtInstall (g : Geometry) (own : Position) (run : ApplyRun) (r : HeldRecord) : ApplyRun :=
  match r.change with
  | .showRec c a =>
    if run.showFrame = some r.eff then run.settle own r .rejectedConflict
    else
      let res := judgeInstalled c a r.eff run.shows
      { run with shows := res.1, showFrame := some r.eff, showApplied := res.2 == ReceiptOutcome.applied }.settle own r res.2
  | _ => run.store g own r

/-- The records due at a frame, in list order (R90). -/
def dueAt (f : Frame) (list : List HeldRecord) : List HeldRecord := list.filter fun r => r.eff == f

/-- The records not due at a frame. -/
def notDueAt (f : Frame) (list : List HeldRecord) : List HeldRecord := list.filter fun r => r.eff != f

/-- The apply of a frame start: the transition word starts as NULL and the due records are dispatched in list order (R90, R119). -/
def applyRunAt (s : State) : ApplyRun :=
  (dueAt s.timer.frame s.sched.list).foldl (dispatchAtFrame s.geometry s.own)
    (ApplyRun.begin s.obj { s.shows with transition := .null })

/-- The show controller after the show work of a frame start: the pacing step follows when no SHOW record was APPLIED (R118). -/
def showWork (run : ApplyRun) : ShowControl := if run.showApplied then run.shows else pacingStep run.shows

/-- The work of a frame start in MEMBER, LEAVING and LOOPBACK: apply, show work, word, events and reports, in the order of R160
(R90-R93, R119-R121, R108, R127). -/
def State.frameWork (s : State) : State :=
  let run := applyRunAt s
  let k := showWork run
  let s1 : State :=
    { s with
      obj := run.obj
      shows := sendWord k
      sched.list := notDueAt s.timer.frame s.sched.list
      sub.receipts := s.sub.receipts ++ run.receipts
      events.frame.recordsApplied := s.events.frame.recordsApplied || !(dueAt s.timer.frame s.sched.list).isEmpty }
  let s2 := s1.reportObjects run.windows run.cursor
  if k.state = s.shows.state then s2 else s2.reportShow

/-! ### Holding without applying (R94) -/

/-- Records whose effective frame is not after a bound leave the list: own ones with UNCERTAIN (R94, R96). -/
def State.dropUpTo (bound : Frame) (s : State) : State :=
  { s with
    sub.receipts := s.sub.receipts ++ uncertainReceipts s.own (s.sched.list.filter fun r => !frameAfter r.eff bound)
    sched.list := s.sched.list.filter fun r => frameAfter r.eff bound }

/-- The drop bound of a frame start: the collection's stream frame, or the frame that ends (R94). -/
def State.dropBoundNow (s : State) : Frame :=
  if s.snap.coll = .collecting then s.snap.collFrame else s.timer.frame - 1

/-- The drop of a frame start in LISTENING and JOINING (R94). -/
def State.dropHeld (s : State) : State :=
  let d := s.dropUpTo s.dropBoundNow
  { d with sched.dropBound := some s.dropBoundNow }

/-- The aging of E_lost at a frame start in LISTENING and JOINING (R136). -/
def State.ageELost (s : State) : State :=
  match s.snap.eLost with
  | none => s
  | some e =>
    if 16384 ≤ (s.timer.frame - e).toNat ∧ (s.timer.frame - e).toNat ≤ 32767 then
      { s with snap.eLost := some (s.timer.frame - 1) }
    else s

end Sys2Proof.Machine
end

