-- ==== Sys2Proof/Machine/SnapshotUnit.lean ====
section
/-! DEFINITION. The snapshot unit: the image (Tables 9-1, 13-4, 13-5), the source side (R130-R132), the joiner side (R137-R139) and
the install (R142-R146). -/

namespace Sys2Proof.Machine

/-! ### The image (R129, R131, R192) -/

/-- The wall header, image bytes 0-31 (Table 13-4). -/
def wallHeader (p : Straps) (c : Configuration) (o : Objects) (k : ShowControl) : List Byte :=
  [BitVec.ofNat 8 p.columns, BitVec.ofNat 8 p.rowCount] ++ halfBytes c.tileW ++ halfBytes c.tileH ++ halfBytes c.period
    ++ [c.lead, c.silence, showCode k.state, showArgByte k.state, BitVec.ofNat 8 k.countdown, o.background,
      flagByte o.look.visible]
    ++ halfBytes o.curX ++ halfBytes o.curY ++ rgbBytes o.look.colourA ++ rgbBytes o.look.colourB ++ List.replicate 7 0

/-- The 1184 bytes of an image in order (Table 9-1). -/
def imageList (p : Straps) (c : Configuration) (o : Objects) (k : ShowControl) : List Byte :=
  wallHeader p c o k ++ o.windows.toList.flatMap windowEntryBytes ++ o.image.toList.flatMap (fun row => row.toList)
    ++ o.palette.toList.flatMap rgbBytes

/-- The image of a list of bytes. -/
def imageOf (bytes : List Byte) : Image := table fun i => bytes.getD i.val 0

/-- The capture of the station's present state (R131). -/
def State.captureImage (s : State) : Image := imageOf (imageList s.straps s.cfg s.obj s.shows)

/-- Image byte `n`. -/
def imageByte (im : Image) (n : Nat) : Byte := im[n]?.getD 0

/-- The 16-bit field at image bytes `n` and `n` + 1. -/
def imageHalf (im : Image) (n : Nat) : Half := halfOf (imageByte im n) (imageByte im (n + 1))

/-- The colour at image bytes `n` to `n` + 2. -/
def imageRGB (im : Image) (n : Nat) : RGB := ⟨imageByte im n, imageByte im (n + 1), imageByte im (n + 2)⟩

/-- The fields of windows entry `i` of an image, as if present (Table 13-5). -/
def imageWindow (im : Image) (i : Fin 8) : Window :=
  let b := 32 + 16 * i.val
  ⟨(imageByte im (b + 1)).extractLsb' 0 4, (imageByte im (b + 2)).extractLsb' 0 4, imageHalf im (b + 4), imageHalf im (b + 6),
    imageHalf im (b + 8), imageHalf im (b + 10), imageHalf im (b + 12), imageHalf im (b + 14)⟩

/-- The present byte of windows entry `i`. -/
def imagePresent (im : Image) (i : Fin 8) : Byte := imageByte im (32 + 16 * i.val)

/-- Row `r` of the cursor image of a snapshot. -/
def imageRow (im : Image) (r : Fin 32) : CursorBytes := table fun j => imageByte im (160 + 8 * r.val + j.val)

/-- The objects an image holds (R145, R192). -/
def imageObjects (im : Image) : Objects where
  palette := table fun i => imageRGB im (416 + 3 * i.val)
  look := ⟨imageByte im 14 == 1, imageRGB im 19, imageRGB im 22⟩
  image := table fun r => imageRow im r
  curX := imageHalf im 15
  curY := imageHalf im 17
  windows := table fun i => if imagePresent im i = 1 then some (imageWindow im i) else none
  background := imageByte im 13

/-- The show state and argument an image holds (Table 13-4). -/
def imageShow (im : Image) : ShowState :=
  match (imageByte im 10).toNat with
  | 0 => .stopped (if imageByte im 11 = 0 then .keep else .blank)
  | 1 => .running
  | 2 => .held
  | _ => .paced (imageByte im 11).toNat

/-! ### The checks of an install (R143, R144) -/

/-- The geometry check: the seven fields equal the station's own (R143). -/
def geometryMatches (p : Straps) (c : Configuration) (im : Image) : Bool :=
  decide ((imageByte im 0).toNat = p.columns ∧ (imageByte im 1).toNat = p.rowCount ∧ imageHalf im 2 = c.tileW
    ∧ imageHalf im 4 = c.tileH ∧ imageHalf im 6 = c.period ∧ imageByte im 8 = c.lead ∧ imageByte im 9 = c.silence)

/-- The content check of one windows entry (R144, R192). -/
def windowEntryPasses (g : Geometry) (im : Image) (i : Fin 8) : Bool :=
  decide (imagePresent im i = 0)
    || (decide (imagePresent im i = 1 ∧ (imageByte im (33 + 16 * i.val)).toNat ≤ 7 ∧ (imageByte im (34 + 16 * i.val)).toNat ≤ 7)
      && windowValid g (imageWindow im i))

/-- The content check of show state, argument and countdown (R144). -/
def showPasses (im : Image) : Bool :=
  let arg := (imageByte im 11).toNat
  let count := (imageByte im 12).toNat
  match (imageByte im 10).toNat with
  | 0 => decide (arg ≤ 1 ∧ count = 0)
  | 1 | 2 => decide (arg = 0 ∧ count = 0)
  | 3 => decide (2 ≤ arg ∧ arg ≤ 8 ∧ 1 ≤ count ∧ count ≤ arg)
  | _ => false

/-- The content check (R144). -/
def contentPasses (g : Geometry) (im : Image) : Bool :=
  (List.finRange 8).all (windowEntryPasses g im) && decide ((imageByte im 14).toNat ≤ 1)
    && cursorCoordValid g.canvasW (imageHalf im 15) && cursorCoordValid g.canvasH (imageHalf im 17) && showPasses im

/-! ### The source side (R130, R132) -/

/-- Whether the roster holds a JOINING entry other than the own (R130). -/
def State.hasJoiner (s : State) : Bool :=
  (List.finRange 16).any fun p => p != s.own && s.roster[p].state == .joining

/-- Whether a frame start starts a stream (R130). -/
def State.startsStream (s : State) : Bool :=
  s.ctl.state == .member && s.reference == some s.own && s.hasJoiner && !s.snap.streaming

/-- The start of a stream at a frame start, after the apply and the show work (R130, R131). -/
def State.startStream (s : State) : State :=
  if s.startsStream then
    { s with
      snap.streaming := true
      snap.streamFrame := s.timer.frame
      snap.nextPart := 0
      snap.capture := s.captureImage }
  else s

/-- The data of part `i` (R129): 64 bytes, or 32 for part 18. -/
def partData (im : Image) (i : Nat) : List Byte := (im.toList.drop (64 * i)).take 64

/-- The PART body the snapshot unit gives for the next part (R132). -/
def State.nextPartBody (s : State) : Body :=
  .part s.snap.streamFrame (BitVec.ofNat 8 s.snap.nextPart) (BitVec.ofNat 8 Config.partCount)
    (partData s.snap.capture s.snap.nextPart)

/-- A successful readback of a PART settles the part (R132); with no stream running it settles nothing (R133). -/
def State.partSent (s : State) : State :=
  if s.snap.streaming then
    if s.snap.nextPart < 18 then { s with snap.nextPart := s.snap.nextPart + 1 } else { s with snap.streaming := false }
  else s

/-! ### The joiner side (R137-R139) -/

/-- Part data written into the assembly image from byte 64 × `i` on (R138). -/
def writePart (i : Nat) (data : List Byte) (im : Image) : Image :=
  table fun n => if 64 * i ≤ n.val ∧ n.val < 64 * i + data.length then data.getD (n.val - 64 * i) 0 else im[n]

/-- Whether a stream frame is not before E_lost (R137). -/
def notBeforeLost (lost : Option Frame) (f : Frame) : Bool := lost.all fun e => !frameAfter e f

/-- The conditions on a PART message that is part 0 of a new collection (R137). -/
def State.isPartZero (sender : Position) (f : Frame) (index count : Byte) (data : List Byte) (s : State) : Bool :=
  s.reference == some sender && index == 0 && count.toNat == Config.partCount && data.length == 64
    && notBeforeLost s.snap.eLost f

/-- A PART message judged as a possible part 0 in WAITING (R137). -/
def State.judgePartZero (sender : Position) (f : Frame) (index count : Byte) (data : List Byte) (s : State) : State :=
  if s.isPartZero sender f index count data then
    { s with
      snap.coll := .collecting
      snap.assembly := writePart 0 data s.snap.assembly
      snap.collFrame := f
      snap.collSource := sender
      snap.nextExpected := 1 }
  else s

/-- The length of the data of part `i` (R138). -/
def partLength (i : Nat) : Nat := if i < 18 then 64 else 32

/-- Whether a PART message of the collection source continues the collection (R138). -/
def State.partContinues (f : Frame) (index count : Byte) (data : List Byte) (s : State) : Bool :=
  f == s.snap.collFrame && count.toNat == Config.partCount && index.toNat == s.snap.nextExpected
    && data.length == partLength s.snap.nextExpected

/-! ### The install (R142-R146) -/

/-- Step 3 of R142: the objects and the show state are written from the image and the install position is set (R145, R125). -/
def State.writeImage (s : State) : State :=
  { s with
    obj := imageObjects s.snap.assembly
    shows.state := imageShow s.snap.assembly
    shows.countdown := (imageByte s.snap.assembly 12).toNat
    shows.installPos := some s.snap.collFrame }

/-- Step 4 of R142: the schedule's drop and deferred apply with the show controller's walk, and the reports at the end
(R96, R125, R126, R108, R127). A stream frame after the current frame is log 33. -/
def State.deferredApply (s : State) : State :=
  let d := s.dropUpTo s.snap.collFrame
  let run := (d.sched.list.filter fun r => !frameAfter r.eff d.timer.frame).foldl (dispatchAtInstall d.geometry d.own)
    (ApplyRun.begin d.obj d.shows)
  let a : State :=
    { d with
      obj := run.obj
      shows := endInstall d.timer.frame run.shows
      sched.list := d.sched.list.filter fun r => frameAfter r.eff d.timer.frame
      sub.receipts := d.sub.receipts ++ run.receipts }
  (a.reportObjects true true).reportShow

/-- The install of the assembly image (R142): FAULT with GEOMETRY, or an abandoned install, or MEMBER. -/
def State.install (s : State) : State :=
  if geometryMatches s.straps s.cfg s.snap.assembly then
    if contentPasses s.geometry s.snap.assembly then s.writeImage.deferredApply.changeState .member
    else s.abandon
  else s.enterFault .geometry

/-- A part that continues the collection is written; part 18 is followed by the install (R138). -/
def State.collectPart (data : List Byte) (s : State) : State :=
  let w : State := { s with snap.assembly := writePart s.snap.nextExpected data s.snap.assembly }
  if s.snap.nextExpected < 18 then { w with snap.nextExpected := s.snap.nextExpected + 1 } else w.install

/-- The snapshot unit's step for a delivered PART message (R135, R137-R139). -/
def State.takePart (sender : Position) (f : Frame) (index count : Byte) (data : List Byte) (s : State) : State :=
  match s.snap.coll with
  | .idle => s
  | .waiting => s.judgePartZero sender f index count data
  | .collecting =>
    if sender = s.snap.collSource then
      if s.partContinues f index count data then s.collectPart data
      else s.abandon.judgePartZero sender f index count data
    else s

end Sys2Proof.Machine
end

