-- ==== Sys2Proof/Machine/Delivery.lean ====
section
/-! DEFINITION. The delivery of a valid message of a peer (R7): roster (R55-R57), station controller and frame timer (R28, R30,
R31, R40), schedule (R83-R87), snapshot unit; the aging and the removal of roster entries (R58, R59). -/

namespace Sys2Proof.Machine

/-! ### The roster's step (R54-R57) -/

/-- A peer's entry takes a new value. A change of its state raises ROSTER_CHANGED (R54), and a collection whose source leaves
MEMBER by it is abandoned (R140). -/
def State.updateEntry (k : Position) (e : Entry) (s : State) : State :=
  if s.roster[k].state = e.state then s.setEntry k e
  else
    let s' := (s.setEntry k e).raiseRosterChanged
    if s.roster[k].state = .member ∧ s.snap.collSource = k then s'.abandon else s'

/-- A MEMBER entry with an expected sequence. -/
def memberEntry (expected : SeqNum) : Entry := ⟨.member, 0, some expected, none⟩

/-- The lowest position of a member set. -/
def lowestMember (members : BitVec 16) : Option Position := (List.finRange 16).find? fun p => inSet members p

/-- Whether the wall of sender `b` wins over the own wall (R56 case 2). `reference` exists, since the own station is MEMBER, and
the member set holds `b` (R3). -/
def otherWallWins (members : BitVec 16) (b reference own : Position) : Bool :=
  let m := (lowestMember members).getD b
  decide (m < reference) || (m == reference && decide (b < own))

/-- The merge rule (R56, R57): a returning station, the other wall, or the own wall. -/
def State.mergeRule (m : Message) (s : State) : State :=
  let k := m.sender
  if inSet m.members s.own then
    let s' := s.updateEntry k (memberEntry m.mark)
    if s.roster[k].expected = some m.mark then s' else s'.resync .gap
  else if otherWallWins m.members k (s.reference.getD s.own) s.own then
    ((s.updateEntry k (memberEntry m.mark)).adopt m.frame).clearPendingList.resync .merge
  else s.setEntry k { s.roster[k] with miss := 0 }

/-- The roster takes a message (R55). -/
def State.rosterStep (m : Message) (s : State) : State :=
  let k := m.sender
  let e := s.roster[k]
  match m.body with
  | .join _ => s.updateEntry k ⟨.joining, 0, some m.mark, none⟩
  | .leave f => s.updateEntry k ⟨.leaving, 0, e.expected, some f⟩
  | .changes _ | .part _ _ _ _ | .idle =>
    match e.state with
    | .joining => s.updateEntry k (memberEntry m.mark)
    | .member => s.setEntry k { e with miss := 0 }
    | .absent | .leaving =>
      match s.ctl.state with
      | .listening | .joining => s.updateEntry k (memberEntry (e.expected.getD m.mark))
      | .member => s.mergeRule m
      | .offline | .leaving | .fault | .loopback => s.setEntry k { e with miss := 0 }

/-! ### The station controller's step (R28, R30, R31, R40) -/

/-- The first valid MEMBER message of a listening (R28, R40). -/
def State.firstMember (m : Message) (s : State) : State :=
  let s' := s.adopt m.frame
  { s' with ctl.memberHeard := true, snap.eLost := some s'.frameLead }

/-- The FRAME restart of a joining (R31). The resync cause stays when an earlier trigger of the same delivery set it (R47,
log 11). -/
def State.restartJoining (wasMember : Bool) (m : Message) (s : State) : State :=
  let s' := ((s.adopt m.frame).clearPendingList).abandon
  { s' with
    snap.eLost := some s'.frameLead
    ctl.joinReason := .resync
    ctl.resyncCause := if wasMember then s'.ctl.resyncCause else .frame
    events.wall.resyncStarted := true }

/-- Whether a message of the reference station shows a frame number mismatch (R30, R31). -/
def State.frameMismatch (m : Message) (s : State) : Bool := s.reference == some m.sender && m.frame != s.timer.frame

/-- The station controller takes a message; `wasMember` says that the station was MEMBER when its delivery began. -/
def State.controllerStep (wasMember : Bool) (m : Message) (s : State) : State :=
  if m.state = .member then
    match s.ctl.state with
    | .listening => if s.ctl.memberHeard then s else s.firstMember m
    | .member => if s.frameMismatch m then ((s.adopt m.frame).clearPendingList).resync .frame else s
    | .joining => if s.frameMismatch m then s.restartJoining wasMember m else s
    | .offline | .leaving | .fault | .loopback => s
  else s

/-! ### The schedule's step (R83-R87) -/

/-- A peer's expected sequence is set. -/
def State.setExpected (k : Position) (n : SeqNum) (s : State) : State :=
  s.setEntry k { s.roster[k] with expected := some n }

/-- What a sequence gap does in each delivering state (R85). -/
def State.gapEffect (s : State) : State :=
  match s.ctl.state with
  | .member => s.resync .gap
  | .joining => let a := s.abandon; { a with snap.eLost := some a.frameLead }
  | .listening => { s with snap.eLost := some s.frameLead }
  | .offline | .leaving | .fault | .loopback => s

/-- The sequence check (R84). -/
def State.sequenceCheck (k : Position) (mark : SeqNum) (s : State) : State :=
  if s.roster[k].expected = some mark then s else (s.setExpected k mark).gapEffect

/-- The records of a CHANGES message in body order, the first with number `seq` (R86, R87). -/
def State.takeRecords (k : Position) (seq : SeqNum) : List (Change × Frame) → State → State
  | [], s => s
  | (c, eff) :: rest, s =>
    State.takeRecords k (seq + 1) rest ((s.setExpected k (seq + 1)).acceptRecord ⟨c, eff, k, seq⟩)

/-- The schedule takes a message: only CHANGES, PART and IDLE of a sender whose entry is MEMBER (R83). -/
def State.scheduleStep (m : Message) (s : State) : State :=
  if m.state = .member ∧ s.roster[m.sender].state = .member then
    let s' := s.sequenceCheck m.sender m.mark
    match m.body with
    | .changes records => s'.takeRecords m.sender m.mark records
    | .join _ | .leave _ | .part _ _ _ _ | .idle => s'
  else s

/-! ### Delivery (R7) -/

/-- The snapshot unit takes a message (R7, R135). -/
def State.snapshotStep (m : Message) (s : State) : State :=
  match m.body with
  | .part f index count data => s.takePart m.sender f index count data
  | .join _ | .leave _ | .changes _ | .idle => s

/-- The delivery of a valid message of a peer: four blocks in order, each on the state the one before has left (R7). -/
def State.deliver (m : Message) (s : State) : State :=
  (((s.rosterStep m).controllerStep (s.ctl.state == .member) m).scheduleStep m).snapshotStep m

/-! ### Aging and leaving entries (R58, R59) -/

/-- A slot-close report without a valid message (R58). -/
def State.ageEntry (k : Position) (s : State) : State :=
  let e := s.roster[k]
  let miss := min 15 (e.miss + 1)
  if s.cfg.silence.toNat ≤ miss ∧ e.state ≠ .absent then s.updateEntry k ⟨.absent, miss, e.expected, none⟩
  else s.setEntry k { e with miss := miss }

/-- Whether an entry's leave frame has come (R59). -/
def leaveFrameCome (frame : Frame) (e : Entry) : Bool :=
  e.state == .leaving && e.leaveFrame.any fun f => !frameAfter f frame

/-- The removal of one peer entry at its leave frame (R59). -/
def State.removeLeaver (k : Position) (s : State) : State :=
  if k ≠ s.own ∧ leaveFrameCome s.timer.frame s.roster[k] = true then
    s.updateEntry k { s.roster[k] with state := .absent, expected := none, leaveFrame := none }
  else s

/-- The removal of the LEAVING entries whose leave frame has come (R59). -/
def State.removeLeavers (s : State) : State := (List.finRange 16).foldl (fun s k => s.removeLeaver k) s

end Sys2Proof.Machine
end

