-- ==== Sys2Proof/Machine/WallBus.lean ====
section
/-! DEFINITION. The wall bus interface: slot windows (R25), the own-slot message (R10-R13), reception (R2-R9), readback (R14-R16) and
the looped path (R18). -/

namespace Sys2Proof.Machine

/-! ### The own-slot message (R10-R13) -/

/-- What the arbiter chooses in MEMBER and LOOPBACK. -/
inductive ArbiterKind where
  | changes | part | idle
  deriving DecidableEq, Repr

/-- The arbiter's table (R12). -/
def arbiterKind (records part : Bool) (flag : Alternation) : ArbiterKind :=
  match records, part with
  | true, true => if flag = .part then .changes else .part
  | true, false => .changes
  | false, true => .part
  | false, false => .idle

/-- The records a CHANGES message takes get their numbers and effective frame (R13). -/
def numberRecords (seq : SeqNum) (eff : Frame) : List OutRecord → List OutRecord
  | [] => []
  | r :: rest => ⟨r.change, .beingSent seq eff⟩ :: numberRecords (seq + 1) eff rest

/-- The records at the head of the outbound queue that a CHANGES message takes (R13). -/
def State.headRecords (s : State) : List OutRecord := s.sub.outbound.take Config.recordsPerMessage

/-- The choice of the arbiter (R12). -/
def State.arbiter (s : State) : ArbiterKind :=
  arbiterKind (!s.sub.outbound.isEmpty) s.snap.streaming s.bus.alternation

/-- The body of the own-slot message (R11, R12, R13). A LEAVING station has its leave frame (R49). -/
def State.ownBody (s : State) : Body :=
  match s.ctl.state with
  | .joining => .join s.ctl.joinReason
  | .leaving => .leave (s.ctl.leaveFrame.getD s.frameLead)
  | .member | .loopback | .offline | .listening | .fault =>
    match s.arbiter with
    | .changes => .changes (s.headRecords.map fun r => (r.change, s.frameLead))
    | .part => s.nextPartBody
    | .idle => .idle

/-- The own-slot message: header of R10, with the sender state of the kind (MEMBER in LOOPBACK, R18), and the body. -/
def State.ownMessage (s : State) : Message :=
  ⟨s.own, s.ownBody.senderState, s.timer.frame, s.memberSet, s.sub.ownSeq, s.ownBody⟩

/-- The alternation flag after a message is built (R10). -/
def alternationOf : Body → Alternation
  | .changes _ => .changes
  | .part _ _ _ _ => .part
  | .join _ | .leave _ | .idle => .other

/-- The number of records a body carries. -/
def recordCount : Body → Nat
  | .changes records => records.length
  | .join _ | .leave _ | .part _ _ _ _ | .idle => 0

/-- The own-slot message is built and its sending begins: on the pair, or in LOOPBACK on the looped path (R1, R10, R13, R18). -/
def State.buildOwnMessage (s : State) : State :=
  let body := s.ownBody
  let n := recordCount body
  { s with
    bus.txBuffer := messageBytes s.ownMessage
    bus.sending := transmits s.ctl.state
    bus.sendElapsed := 0
    bus.awaiting := if s.ctl.state = .loopback then .looped else .pair
    bus.alternation := alternationOf body
    sub.outbound := numberRecords s.sub.ownSeq s.frameLead (s.sub.outbound.take n) ++ s.sub.outbound.drop n
    sub.ownSeq := s.sub.ownSeq + BitVec.ofNat 8 n
    timer.ownOpened := true }

/-! ### What the pair carries (R1) -/

/-- A bit on the pair. -/
inductive PairBit where
  | start
  | data (value : Bool)
  | stop
  deriving DecidableEq, Repr

/-- A byte on the pair: a start bit, eight data bits low bit first, and a stop bit (R1). -/
def byteFrame (b : Byte) : List PairBit := .start :: ((List.range 8).map fun i => .data (b.getLsbD i)) ++ [.stop]

/-- The bits of the own message: its bytes follow one another with no gap (R1). -/
def State.messageBits (s : State) : List PairBit := s.bus.txBuffer.flatMap byteFrame

/-- The bit the station drives on WB_P and WB_N now, ten to a byte time; none while it has released the pair (R1). -/
def State.pairBit (s : State) : Option PairBit :=
  if s.bus.sending then s.messageBits[10 * s.bus.sendElapsed / Config.byteTime]? else none

/-! ### Outcomes of the own-slot message (R15, R16) -/

/-- The BEING_SENT records of a queue as held records of an origin, in order. -/
def sentRecords (own : Position) (queue : List OutRecord) : List HeldRecord :=
  queue.filterMap fun r =>
    match r.status with
    | .waiting => none
    | .beingSent seq eff => some ⟨r.change, eff, own, seq⟩

/-- The WAITING records of a queue. -/
def waitingRecords (queue : List OutRecord) : List OutRecord := queue.filter fun r => r.status == .waiting

/-- Own records arrive at the schedule in body order (R89). -/
def State.acceptRecords (records : List HeldRecord) (s : State) : State := records.foldl (fun s r => s.acceptRecord r) s

/-- A successful readback (R15): the run count returns to 0, sent records go to the schedule, a PART is counted. -/
def State.readbackSucceeded (s : State) : State :=
  let sent := sentRecords s.own s.sub.outbound
  let cleared : State :=
    { s with
      bus.readback := .success
      bus.runCount := 0
      sub.outbound := waitingRecords s.sub.outbound }
  let taken := cleared.acceptRecords sent
  if s.bus.alternation = .part then taken.partSent else taken

/-- A failed readback (R16): sent records leave with UNCERTAIN; at a count of 2 the station goes to FAULT with COLLISION, at 1 a
MEMBER resyncs. -/
def State.readbackFailed (s : State) : State :=
  let n := s.bus.runCount + 1
  let sent := sentRecords s.own s.sub.outbound
  let settled : State :=
    { s with
      bus.readback := .failure
      bus.runCount := n
      sub.outbound := waitingRecords s.sub.outbound
      sub.receipts := s.sub.receipts ++ sent.map fun r => receiptOf r .uncertain }
  if 2 ≤ n then settled.enterFault .collision
  else if s.ctl.state = .member then settled.resync .readback
  else settled

/-- The looped message is handed to the own receive path (R18). -/
def State.handOver (s : State) : State :=
  State.readbackSucceeded { s with bus.awaiting := .none, bus.sending := false }

/-! ### Slot windows (R2, R8, R25) -/

/-- The bad-message counter counts, except in LOOPBACK (R5, R18). -/
def State.countBad (s : State) : State :=
  if s.ctl.state = .loopback then s else { s with bus.badMessages := satInc s.bus.badMessages }

/-- Slot `k` opens: the receiver waits for a start bit, in every state but LOOPBACK (R2). The own slot counts as opened at once in
the states that build no message; in the others OWN_SLOT_OPEN opens it (log 7). -/
def State.openWindow (k : Position) (s : State) : State :=
  { s with
    timer.openSlot := some k
    timer.nextSlot := k.val + 1
    timer.ownOpened :=
      if k = s.own then !buildsMessages s.ctl.state else s.timer.ownOpened || decide (s.own < k)
    bus.attempt := if s.ctl.state = .loopback then .off else .waiting
    bus.delivered := false }

/-- The close of a peer's slot: an unfinished attempt ends as invalid, and the roster hears whether a valid message was delivered
(R2, R8). -/
def State.closePeerSlot (k : Position) (s : State) : State :=
  let s' := if s.bus.attempt = .receiving then s.countBad else s
  if delivers s.ctl.state = true ∧ s.bus.delivered = false then s'.ageEntry k else s'

/-- The close of the own slot: an outcome still open is a failed readback (R14), on the looped path the hand-over (log 23); an
ordinary attempt unfinished ends as invalid (R2, R5). -/
def State.closeOwnSlot (s : State) : State :=
  match s.bus.awaiting with
  | .pair => State.readbackFailed { s with bus.awaiting := .none, bus.attempt := .ended }
  | .looped => s.handOver
  | .none => if s.bus.attempt = .receiving ∧ transmits s.ctl.state = false then s.countBad else s

/-- What stands after the close of slot `k`: no window is open, and after slot 15 the receiver waits for the start bit of the second
half (R2). -/
def State.windowClosed (k : Position) (s : State) : State :=
  { s with
    timer.openSlot := none
    timer.ownOpened := s.timer.ownOpened || k == s.own
    bus.attempt := if k.val = 15 ∧ s.ctl.state ≠ .loopback then .waiting else .off
    bus.delivered := false
    bus.sending := s.bus.sending && k != s.own }

/-- The close of slot `k` (R8, R25). -/
def State.closeSlot (k : Position) (s : State) : State :=
  (if k = s.own then s.closeOwnSlot else s.closePeerSlot k).windowClosed k

/-- A window that is open is closed. -/
def State.closeOpenSlot (s : State) : State :=
  match s.timer.openSlot with
  | none => s
  | some k => s.closeSlot k

/-- SLOT_OPEN (R25): slot `k` opens when the frame has come to it: no slot opens before the first frame start, and none twice in a
frame (log 27). -/
def execSlotOpen (k : Position) (s : State) : Host.Outcome State Fault Refusal :=
  .next (if s.timer.noGuard = true ∨ k.val < s.timer.nextSlot then s else s.closeOpenSlot.openWindow k)

/-- The own window is made to stand open. -/
def State.openOwnWindow (s : State) : State :=
  if s.timer.openSlot = some s.own then s else s.closeOpenSlot.openWindow s.own

/-- In JOINING, MEMBER, LEAVING and LOOPBACK the own-slot message is built and its sending begins (R10, R18); in the other states the own
slot has opened and carries no message. -/
def State.sendOwnMessage (s : State) : State :=
  if buildsMessages s.ctl.state then s.buildOwnMessage else { s with timer.ownOpened := true }

/-- OWN_SLOT_OPEN (R10): the own slot opens, and in JOINING, MEMBER, LEAVING and LOOPBACK the message is built and its sending
begins. Once a frame, and not before the first frame start (R25). -/
def execOwnSlotOpen (s : State) : Host.Outcome State Fault Refusal :=
  .next (if s.timer.noGuard = true ∨ s.timer.ownOpened = true then s else s.openOwnWindow.sendOwnMessage)

/-- TRANSMIT_COMPLETE (R1): the pair is released. -/
def execTransmitComplete (s : State) : Host.Outcome State Fault Refusal := .next { s with bus.sending := false }

/-- SLOT_CLOSE (R8, R25). -/
def execSlotClose (k : Position) (s : State) : Host.Outcome State Fault Refusal :=
  .next (if s.timer.openSlot = some k then s.closeSlot k else s)

/-! ### Reception (R2-R9) -/

/-- Whether the receiver takes bytes: it waits for a start bit or an attempt is in progress (R2). -/
def State.attemptLive (s : State) : Bool := s.bus.attempt == .waiting || s.bus.attempt == .receiving

/-- The bytes already collected by the attempt in progress. -/
def State.collected (s : State) : List Byte := if s.bus.attempt = .receiving then s.bus.rxBuffer else []

/-- Whether the open window is the own slot of a transmitting station, whose attempt is the readback (R2). -/
def State.readbackSlot (s : State) : Bool := s.timer.openSlot == some s.own && transmits s.ctl.state

/-- Whether MESSAGE_RECEIVED has an attempt to act on: not in LOOPBACK (R6), not in the readback's slot (R2), and only while the
receiver takes bytes. -/
def State.receives (s : State) : Bool := s.ctl.state != .loopback && !s.readbackSlot && s.attemptLive

/-- The attempt after a start bit and the whole bytes that followed: collected bytes and attempt state. It begins with its first start
bit, so a run without a whole byte begins it too (R2, log 6). -/
def State.setAttempt (buffer : List Byte) (ended : Bool) (s : State) : State :=
  { s with
    bus.rxBuffer := buffer
    bus.attempt := if ended then .ended else .receiving }

/-- A valid message (R6, R7, R9): in the own slot it is a position conflict in LISTENING; a peer's is delivered in the delivering
states. -/
def State.takeValid (m : Message) (s : State) : State :=
  if m.sender = s.own then
    if s.ctl.state = .listening then s.enterFault .positionInUse else s
  else if delivers s.ctl.state then
    let d := s.deliver m
    { d with bus.delivered := true }
  else s

/-- A complete attempt: valid or counted (R3, R5). In the second half of a frame there is no slot and it is always invalid (R2). -/
def State.judgeAttempt (s : State) : State :=
  match s.timer.openSlot with
  | none => s.countBad
  | some k =>
    match parseMessage k s.bus.rxBuffer with
    | none => s.countBad
    | some m => s.takeValid m

/-- What the bytes collected make of an ordinary attempt (R2, R3, R5). -/
def State.receiveRun (buffer : List Byte) (e : AttemptEnd) (s : State) : State :=
  match e with
  | .unfinished => s.setAttempt buffer false
  | .invalid => (s.setAttempt buffer true).countBad
  | .complete => (s.setAttempt buffer true).judgeAttempt

/-- MESSAGE_RECEIVED (R2, R3): a start bit and the bytes that follow it. -/
def execMessageReceived (bytes : List Byte) (stopBit : Bool) (s : State) : Host.Outcome State Fault Refusal :=
  let run := takeRun s.collected bytes stopBit
  .next (if s.receives then s.receiveRun run.1 run.2 else s)

/-- Whether a complete readback succeeds (R14): the message is valid and equals what was sent. -/
def State.readbackMatches (s : State) : Bool :=
  s.bus.rxBuffer == s.bus.txBuffer && (parseMessage s.own s.bus.rxBuffer).isSome

/-- The readback's outcome is known (R14): it is success when the attempt ended complete and matches. -/
def State.settleReadback (complete : Bool) (s : State) : State :=
  let s' : State := { s with bus.awaiting := .none }
  if complete && s.readbackMatches then s'.readbackSucceeded else s'.readbackFailed

/-- What the bytes collected make of the readback (R2, R14). -/
def State.readbackRun (buffer : List Byte) (e : AttemptEnd) (s : State) : State :=
  match e with
  | .unfinished => s.setAttempt buffer false
  | .invalid => (s.setAttempt buffer true).settleReadback false
  | .complete => (s.setAttempt buffer true).settleReadback true

/-- READBACK (R14): bytes of the own slot of a station whose own message waits for its outcome. -/
def execReadback (bytes : List Byte) (stopBit : Bool) (s : State) : Host.Outcome State Fault Refusal :=
  let run := takeRun s.collected bytes stopBit
  .next (if s.bus.awaiting = .pair ∧ s.attemptLive = true then s.readbackRun run.1 run.2 else s)

/-- LOOPED_HANDOVER (R18). -/
def execLoopedHandover (s : State) : Host.Outcome State Fault Refusal :=
  .next (if s.bus.awaiting = .looped then s.handOver else s)

end Sys2Proof.Machine
end

