-- ==== Sys2Proof/Machine/Time.lean ====
section
/-! DEFINITION. Elapsed time (log 2): the running times of the timers, the points at which a timer event falls due, and the event
that is due now. A point of P/32 is P ticks. -/

namespace Sys2Proof.Machine

/-- P, the frame period in force, in µs; also P/32 in ticks. -/
def State.period (s : State) : Nat := s.timer.period.toNat

/-- The strobe guard: less than 7/8 × P has passed since the frame start (R21). -/
def State.insideGuard (s : State) : Bool := decide (s.timer.elapsed < 28 * s.period)

/-- The expiry point of the own frame timer: P, or 9/8 × P in OFFLINE, LISTENING and FAULT (R20). -/
def State.expiryPoint (s : State) : Ticks := if buildsMessages s.ctl.state then 32 * s.period else 36 * s.period

/-- A debounce timer that runs goes on. -/
def DebouncedInput.advance (d : Ticks) (i : DebouncedInput) : DebouncedInput := { i with timer := i.timer.map (· + d) }

/-- The service controller's timers go on (R163, R166, R173). -/
def Service.advance (d : Ticks) (v : Service) : Service :=
  { v with
    presence := v.presence.advance d
    latch := v.latch.advance d
    button := v.button.advance d
    powerTimer := v.powerTimer.map (· + d)
    blinkElapsed := if v.led = .blink then v.blinkElapsed + d else v.blinkElapsed }

/-- Time `d` passes and no event falls into it: every running timer goes on by `d`. -/
def State.advance (d : Ticks) (s : State) : State :=
  { s with
    timer.elapsed := s.timer.elapsed + d
    timer.driveElapsed := if s.timer.driving then s.timer.driveElapsed + d else s.timer.driveElapsed
    bus.sendElapsed :=
      if s.bus.sending = true ∨ s.bus.awaiting = .looped then s.bus.sendElapsed + d else s.bus.sendElapsed
    svc := s.svc.advance d }

/-- The time the own message takes (R1, R18). -/
def State.messageTime (s : State) : Ticks := Config.byteTime * s.bus.txBuffer.length

/-- A debounce timer has reached 20 ms (R163). -/
def DebouncedInput.due (i : DebouncedInput) : Bool := i.timer.any fun t => decide (Config.debounceTime ≤ t)

/-- The wall bus and strobe event that is due (R1, R18, R22, R25). -/
def State.dueBusEvent (s : State) : Option Instr :=
  if s.bus.sending = true ∧ s.messageTime ≤ s.bus.sendElapsed then some .transmitComplete
  else if s.bus.awaiting = .looped ∧ s.messageTime ≤ s.bus.sendElapsed then some .loopedHandover
  else if s.timer.driving = true ∧ Config.strobePulse ≤ s.timer.driveElapsed then some .strobeDriveEnd
  else none

/-- The slot event that is due (R10, R25): the open slot's close, the own message, the next slot's opening. -/
def State.dueSlotEvent (s : State) : Option Instr :=
  match s.timer.openSlot with
  | some k =>
    if (k.val + 1) * s.period ≤ s.timer.elapsed then some (.slotClose k)
    else if k = s.own ∧ s.timer.ownOpened = false then some .ownSlotOpen
    else none
  | none =>
    if h : s.timer.noGuard = false ∧ s.timer.nextSlot < 16 ∧ s.timer.nextSlot * s.period ≤ s.timer.elapsed then
      some (.slotOpen ⟨s.timer.nextSlot, h.2.1⟩)
    else none

/-- The frame timer event that is due (R20). -/
def State.dueFrameEvent (s : State) : Option Instr :=
  if s.expiryPoint ≤ s.timer.elapsed then some .ownFrameTimerExpiry else none

/-- The service event that is due (R163, R166, R167, R173). -/
def State.dueServiceEvent (s : State) : Option Instr :=
  if s.svc.presence.due then some (.debounceExpiry .presence)
  else if s.svc.latch.due then some (.debounceExpiry .latch)
  else if s.svc.button.due then some (.debounceExpiry .button)
  else if (s.svc.powerTimer.any fun t => decide (Config.powerTimeout ≤ t)) = true then some .powerTimerExpiry
  else if s.svc.led = .blink ∧ Config.blinkTime ≤ s.svc.blinkElapsed then some .ledBlinkToggle
  else none

/-- The timer event that is due now, the first in this order. -/
def State.dueEvent (s : State) : Option Instr :=
  s.dueBusEvent.or (s.dueSlotEvent.or (s.dueFrameEvent.or s.dueServiceEvent))

end Sys2Proof.Machine
end

