-- ==== Sys2Proof/Machine/FrameTiming.lean ====
section
/-! DEFINITION. The frame start (R23) with the work of every block in each station state, and the three events of the frame timer
(R20-R22). -/

namespace Sys2Proof.Machine

/-- A frame start ends what the frame before left open: a window still open is closed (log 9), and an attempt of the second half
ends as invalid (R2). -/
def State.endFrame (s : State) : State :=
  let s' := s.closeOpenSlot
  if s'.bus.attempt = .receiving then State.countBad { s' with bus.attempt := .ended } else s'

/-- What the frame timer does at a frame start (R23); with an own expiry in JOINING, MEMBER or LEAVING it drives WB_STROBE (R22). -/
def State.startTimer (ownTimer : Bool) (s : State) : State :=
  let drive := ownTimer && transmits s.ctl.state
  { s with
    timer.frame := s.timer.frame + 1
    timer.elapsed := 0
    timer.period := s.cfg.period
    timer.noGuard := false
    timer.ownOpened := false
    timer.nextSlot := 0
    timer.driving := s.timer.driving || drive
    timer.driveElapsed := if drive then 0 else s.timer.driveElapsed
    events.frame.frameStarted := true }

/-- The word of a frame start without show work (R119, R121). -/
def State.sendDeferredWord (s : State) : State := { s with shows := sendDeferred s.shows }

/-- A founding (R41): MEMBER, an empty pending list, defaults; E_lost becomes invalid on the change of state (R136). -/
def State.found (s : State) : State :=
  let s' := s.changeState .member
  State.takeDefaults { s' with sched.list := [] }

/-- The end of a listening (R41): JOINING with reason NEW when a member was heard, and otherwise a founding. -/
def State.endListening (s : State) : State :=
  if s.ctl.memberHeard then
    let s' := s.changeState .joining
    { s' with ctl.joinReason := .new }
  else s.found

/-- The listen countdown falls by one, and at 0 the listening ends (R40, R41). -/
def State.countListening (s : State) : State :=
  let s' : State := { s with ctl.countdown := s.ctl.countdown - 1 }
  if s.ctl.countdown ≤ 1 then s'.endListening else s'

/-- The frame-start work of LISTENING (R41, R59, R94, R119, R136). -/
def State.listeningFrame (s : State) : State := s.sendDeferredWord.removeLeavers.dropHeld.ageELost.countListening

/-- The frame-start work of JOINING (R59, R94, R119, R136). -/
def State.joiningFrame (s : State) : State := s.sendDeferredWord.removeLeavers.dropHeld.ageELost

/-- The frame-start work of MEMBER (R59, R90, R119, R130). -/
def State.memberFrame (s : State) : State := s.removeLeavers.frameWork.startStream

/-- The leave frame of a LEAVING station (R51, R52, R119): the deferred word goes, the station is OFFLINE, and a leave begun by a
request is reported (R174). -/
def State.leaveDone (s : State) : State :=
  let s' := s.sendDeferredWord.enterOffline
  if s.ctl.requestedLeave then { s' with svc := reportLeaveDone s'.svc } else s'

/-- The frame-start work of LEAVING (R51, R59, R90). -/
def State.leavingFrame (s : State) : State :=
  if s.ctl.leaveFrame = some s.timer.frame then s.leaveDone else s.removeLeavers.frameWork

/-- The frame-start work of the blocks by the station state that stands at the frame start. -/
def State.blockWork (s : State) : State :=
  match s.ctl.state with
  | .offline | .fault => s.sendDeferredWord
  | .listening => s.listeningFrame
  | .joining => s.joiningFrame
  | .member => s.memberFrame
  | .leaving => s.leavingFrame
  | .loopback => s.frameWork

/-- The evaluation of the output state at a frame start (R159, R160). -/
def State.evaluateOutput (s : State) : State :=
  { s with comp.showing := s.comp.showing || (applies s.ctl.state && s.svc.power == .on) }

/-- A frame start (R23): the frame before is ended, the timer restarts with the new number, the blocks do their work, the output state
is evaluated, and slot 0 opens. -/
def State.frameStart (ownTimer : Bool) (s : State) : State :=
  ((s.endFrame.startTimer ownTimer).blockWork.evaluateOutput).openWindow 0

/-- OWN_FRAME_TIMER_EXPIRY (R20, R22, R23). -/
def execOwnFrameTimerExpiry (s : State) : Host.Outcome State Fault Refusal := .next (s.frameStart true)

/-- A rising edge now (R21, R24). Not observed in LOOPBACK; during the own drive the line is asserted and the edge is the own one. -/
def State.strobeEdge (s : State) : State :=
  if s.ctl.state = .loopback ∨ s.timer.driving = true then s
  else if s.timer.noGuard = true ∨ s.insideGuard = false then s.frameStart false
  else { s with timer.earlyStrobes := satInc s.timer.earlyStrobes }

/-- The own strobe pulse has lasted its 4 µs (R22). -/
def FrameTimer.pulseOver (t : FrameTimer) : Bool := t.driving && decide (Config.strobePulse ≤ t.driveElapsed)

/-- A pulse that has lasted its 4 µs has released the line (R22). -/
def State.endPulse (s : State) : State := { s with timer.driving := s.timer.driving && !s.timer.pulseOver }

/-- WB_STROBE_EDGE (R21, R24): an edge at a reading of the own frame timer; time goes on to that reading when it is later, and an own pulse
that ends on the way releases the line before the edge (R22, log 17). At a reading at or past the own expiry point, which R20 rules out, time
runs past that point with no own expiry and the edge is taken there; other timer events passed over stay due (DESIGN CHOICE, log 17). -/
def execWbStrobeEdge (reading : Ticks) (s : State) : Host.Outcome State Fault Refusal :=
  .next (s.advance (reading - s.timer.elapsed)).endPulse.strobeEdge

/-- STROBE_DRIVE_END (R22): the drive returns to RELEASED. -/
def execStrobeDriveEnd (s : State) : Host.Outcome State Fault Refusal := .next { s with timer.driving := false }

end Sys2Proof.Machine
end

