-- ==== Sys2Proof/Machine/PortBytes.lean ====
section
/-! DEFINITION. The transaction a register access stands in (R177): direction, register index, data bytes taken, and the bytes a read
returns. A command that is a register access leaves the port in that transaction (log 16). -/

namespace Sys2Proof.Machine

/-- The transaction after one more data byte on the same register and direction; another register or direction begins a new one. -/
def nextTransaction (read : Bool) (index : BitVec 7) (p : Port) : Transaction :=
  match p.transaction with
  | some t => if t.read = read ∧ t.index = index then { t with count := t.count + 1 } else ⟨read, index, 1⟩
  | none => ⟨read, index, 1⟩

/-- The port stands in a transaction that returns some bytes; the bits and the data bytes clocked in stay as they are. -/
def Port.inTransaction (t : Transaction) (out : List Byte) (p : Port) : Port :=
  { p with selected := true, transaction := some t, out := out }

/-- A data byte written to a data port. During a write SPI_MISO drives 0, so the port returns no bytes (R177). -/
def State.portWrite (index : BitVec 7) (s : State) : State :=
  { s with port := s.port.inTransaction (nextTransaction false index s.port) [] }

/-- A write transaction of `count` data bytes on a register. -/
def State.portWriteAt (index : BitVec 7) (count : Nat) (s : State) : State :=
  { s with port := s.port.inTransaction ⟨false, index, count⟩ [] }

/-- One data byte read from a data port. -/
def State.portRead (index : BitVec 7) (byte : Byte) (s : State) : State :=
  { s with port := s.port.inTransaction (nextTransaction true index s.port) [byte] }

/-- A read of a register of fixed width, taken at the first data byte; it returns these bytes. -/
def State.portReadWhole (index : BitVec 7) (bytes : List Byte) (s : State) : State :=
  { s with port := s.port.inTransaction ⟨true, index, 1⟩ bytes }

end Sys2Proof.Machine
end

