-- ==== Sys2Proof/Machine/Station.lean ====
section
/-! DEFINITION. The station commands (R35-R39, R48, R49, R181) and the auto-leave request (R52). -/

namespace Sys2Proof.Machine

/-- JOIN accepted with straps that pass: LISTENING (R36). -/
def State.startListening (s : State) : State :=
  let s' := s.changeState .listening
  { s' with
    roster := clearedRoster
    ctl.countdown := s.cfg.lead.toNat + 1
    ctl.memberHeard := false
    ctl.faultReason := .none
    ctl.joinReason := .none
    ctl.resyncCause := .none }

/-- JOIN (R35, R36). -/
def State.joinCommand (s : State) : State :=
  if s.ctl.state = .offline then
    if strapsPass s.straps then s.startListening else s.enterFault .strap
  else s.raiseCommandRefused

/-- LOOPBACK accepted with straps that pass: a wall of one with default objects and show state (R37). -/
def State.startLoopback (s : State) : State :=
  let s' := s.changeState .loopback
  State.takeDefaults
    { s' with
      roster := clearedRoster
      ctl.faultReason := .none
      ctl.joinReason := .none
      ctl.resyncCause := .none }

/-- LOOPBACK (R35, R37). -/
def State.loopbackCommand (s : State) : State :=
  if s.ctl.state = .offline then
    if strapsPass s.straps then s.startLoopback else s.enterFault .strap
  else s.raiseCommandRefused

/-- UNLOOP (R35, R38). -/
def State.unloopCommand (s : State) : State :=
  if s.ctl.state = .loopback then s.enterOffline else s.raiseCommandRefused

/-- CLEAR_FAULT (R35, R39). -/
def State.clearFaultCommand (s : State) : State :=
  if s.ctl.state = .fault then
    let s' := s.enterOffline
    { s' with ctl.faultReason := .none }
  else s.raiseCommandRefused

/-- The own leave frame of a leave taken now: L after the first LEAVE message, which goes in this frame's own slot when that slot has
not opened yet (R49). -/
def State.leaveFrameNow (s : State) : Frame :=
  if s.timer.ownOpened then s.frameLead + 1 else s.frameLead

/-- A MEMBER begins to leave (R49). -/
def State.beginLeaving (requested : Bool) (s : State) : State :=
  let s' := s.changeState .leaving
  { s' with ctl.leaveFrame := some s.leaveFrameNow, ctl.requestedLeave := requested }

/-- LEAVE (R35, R48, R49). -/
def State.leaveCommand (s : State) : State :=
  match s.ctl.state with
  | .member => s.beginLeaving false
  | .listening | .joining => s.enterOffline
  | .offline | .leaving | .fault | .loopback => s.raiseCommandRefused

/-- The auto-leave request (R52): as LEAVE, with the reports to the service controller (R174); dropped in the other states. -/
def State.autoLeaveRequest (s : State) : State :=
  match s.ctl.state with
  | .member =>
    let s' := s.beginLeaving true
    { s' with svc := reportLeaveBegun s'.svc }
  | .listening | .joining =>
    let s' := s.enterOffline
    { s' with svc := reportLeaveDone (reportLeaveBegun s'.svc) }
  | .offline | .leaving | .fault | .loopback => s

/-- JOIN written to COMMAND. -/
def execJoin (s : State) : Host.Outcome State Fault Refusal := .next (s.portWrite (indexOf .command)).joinCommand

/-- LEAVE written to COMMAND. -/
def execLeave (s : State) : Host.Outcome State Fault Refusal := .next (s.portWrite (indexOf .command)).leaveCommand

/-- LOOPBACK written to COMMAND. -/
def execLoopback (s : State) : Host.Outcome State Fault Refusal := .next (s.portWrite (indexOf .command)).loopbackCommand

/-- UNLOOP written to COMMAND. -/
def execUnloop (s : State) : Host.Outcome State Fault Refusal := .next (s.portWrite (indexOf .command)).unloopCommand

/-- CLEAR_FAULT written to COMMAND. -/
def execClearFault (s : State) : Host.Outcome State Fault Refusal := .next (s.portWrite (indexOf .command)).clearFaultCommand

/-- UNKNOWN_COMMAND (R181): a byte that names no command changes nothing and raises COMMAND_REFUSED. -/
def execUnknownCommand (_value : Byte) (s : State) : Host.Outcome State Fault Refusal :=
  .next (s.portWrite (indexOf .command)).raiseCommandRefused

end Sys2Proof.Machine
end

