-- ==== Sys2Proof/Machine/PanelService.lean ====
section
/-! DEFINITION. The service controller: debounced inputs (R163), panel power (R164-R169), service commands (R170-R172), the LED and the
button (R173, R174). -/

namespace Sys2Proof.Machine

/-! ### Panel power (R165-R169) -/

/-- The power condition (chapter head of Panel Service): request ON, panel present, latch closed. -/
def conditionHolds (v : Service) : Bool := v.request && v.presence.value && v.latch.value

/-- PNL_PWR_EN (R165). -/
def pwrEn (v : Service) : Bool := conditionHolds v && (v.power == .rising || v.power == .on)

/-- PNL_LED (R173). -/
def ledLine (v : Service) : Bool :=
  match v.led with
  | .off => false
  | .on => true
  | .blink => v.blinkHigh

/-- RISING, with the power timer from 0. -/
def enterRising (v : Service) : Service := { v with power := .rising, powerTimer := some 0 }

/-- The state enters OFF, where the power condition is judged again (R165, R166). -/
def enterOff (v : Service) : Service :=
  if conditionHolds v then enterRising v else { v with power := .off, powerTimer := none }

/-- FALLING is entered: OFF at once with PNL_PGOOD low, and otherwise the power timer starts from 0 (R166, R167). A loss in RISING taken
before a power good that arrives with it: R166 has R167 take the edge in FALLING, and by R167 that entry has passed to OFF; the model follows
R167, so the state is OFF and the edge after it has no effect (DESIGN CHOICE, log 34). RISING with PNL_PGOOD already high is log 24. -/
def enterFalling (v : Service) : Service :=
  if v.pgood then { v with power := .falling, powerTimer := some 0 } else enterOff v

/-- Power FAULT: the timer is stopped (R168). -/
def enterPowerFault (v : Service) : Service := { v with power := .fault, powerTimer := none }

/-- The power condition is judged after a change of request, presence or latch (R165-R168). -/
def judgePower (v : Service) : Service :=
  match v.power with
  | .off => if conditionHolds v then enterRising v else v
  | .rising | .on => if conditionHolds v then v else enterFalling v
  | .falling | .fault => v

/-- The outcome a pending command has reached, or none while it stays pending (R171, R172). -/
def reachedOutcome (c : ServiceCommand) (p : PowerState) : Option ServiceOutcome :=
  match c, p with
  | .powerOn, .on => some .doneOn
  | .powerOn, .fault => some .doneFault
  | .powerOn, .off => some .doneHeld
  | .powerOff, .off => some .doneOff
  | .powerOff, .fault => some .doneFault
  | _, _ => none

/-- The completion of the pending command when its outcome is reached (R170). -/
def completeCommand (v : Service) : Service :=
  match reachedOutcome v.command v.power with
  | some o => { v with command := .none, outcome := o }
  | none => v

/-- The service controller after an event, with what follows at once: the compositor blanks the tile when the state leaves ON (R169),
POWER_FAULT at an entry to FAULT (R168), and the completion of a pending command with SERVICE_DONE (R170). -/
def State.servicePower (v : Service) (s : State) : State :=
  { s with
    svc := completeCommand v
    comp.showing := s.comp.showing && v.power == .on
    events.service.powerFault := s.events.service.powerFault || (v.power == .fault && s.svc.power != .fault)
    events.service.serviceDone := s.events.service.serviceDone || (reachedOutcome v.command v.power).isSome }

/-! ### Service commands (R170-R173) -/

/-- The LED state an LED field names, or none for NO_CHANGE (Table 13-6). -/
def ledField (led : BitVec 3) : Option LedState :=
  match led.toNat with
  | 1 => some .off
  | 2 => some .on
  | 3 => some .blink
  | _ => none

/-- The LED field of an accepted service command: the LED state is set and the follow flag cleared (R170, R173). -/
def applyLed (led : BitVec 3) (v : Service) : Service :=
  match ledField led with
  | none => v
  | some l => { setLed l v with follow := false }

/-- SERVICE_BUSY is raised and the write ignored (R170). -/
def State.serviceBusy (s : State) : State := { s with events.service.serviceBusy := true }

/-- A POWER_ON command with no command pending (R170, R171). -/
def State.acceptPowerOn (led : BitVec 3) (s : State) : State :=
  s.servicePower (judgePower { applyLed led s.svc with request := true, command := .powerOn })

/-- A POWER_OFF command with no command pending (R170, R172): from FAULT the state becomes OFF. -/
def State.acceptPowerOff (led : BitVec 3) (s : State) : State :=
  let v : Service := { applyLed led s.svc with request := false, command := .powerOff }
  s.servicePower (if v.power = .fault then enterOff v else judgePower v)

/-- An LED command with no command pending: it completes at once with DONE_LED (R170, R173). -/
def State.acceptLed (led : BitVec 3) (s : State) : State :=
  { s with svc := { applyLed led s.svc with outcome := .doneLed }, events.service.serviceDone := true }

/-- POWER_ON (R170, R171). -/
def execPowerOn (led : BitVec 3) (s : State) : Host.Outcome State Fault Refusal :=
  let s' := s.portWrite (indexOf .serviceControl)
  .next (if s.svc.command = .none then s'.acceptPowerOn led else s'.serviceBusy)

/-- POWER_OFF (R170, R172). -/
def execPowerOff (led : BitVec 3) (s : State) : Host.Outcome State Fault Refusal :=
  let s' := s.portWrite (indexOf .serviceControl)
  .next (if s.svc.command = .none then s'.acceptPowerOff led else s'.serviceBusy)

/-- SERVICE_LED (R170, R173): with an LED field of NO_CHANGE the write is no service command and changes nothing. -/
def execServiceLed (led : BitVec 3) (s : State) : Host.Outcome State Fault Refusal :=
  let s' := s.portWrite (indexOf .serviceControl)
  .next
    (if (ledField led).isNone then s'
    else if s.svc.command = .none then s'.acceptLed led
    else s'.serviceBusy)

/-! ### The panel inputs (R163, R164) -/

/-- The raw line changes: the timer starts from zero away from the debounced value and stops on the return to it (R163). A line already
at the level does not change. -/
def DebouncedInput.lineTo (level : Bool) (i : DebouncedInput) : DebouncedInput :=
  if level = i.raw then i else ⟨level, i.value, if level = i.value then none else some 0⟩

/-- The debounced value takes the new level (R163). -/
def DebouncedInput.settle (i : DebouncedInput) : DebouncedInput := ⟨i.raw, i.raw, none⟩

/-- The debounced input of a name. -/
def Service.input (v : Service) : PanelInput → DebouncedInput
  | .presence => v.presence
  | .latch => v.latch
  | .button => v.button

/-- A debounced input is replaced. -/
def Service.setInput (p : PanelInput) (i : DebouncedInput) (v : Service) : Service :=
  match p with
  | .presence => { v with presence := i }
  | .latch => { v with latch := i }
  | .button => { v with button := i }

/-- PANEL_LINE_CHANGE (R163). -/
def execPanelLineChange (p : PanelInput) (level : Bool) (s : State) : Host.Outcome State Fault Refusal :=
  .next { s with svc := s.svc.setInput p ((s.svc.input p).lineTo level) }

/-- A debounced button press (R163, R174): BUTTON_PRESSED, and the auto-leave request when it is configured. -/
def State.buttonPress (s : State) : State :=
  let s' : State := { s with events.service.buttonPressed := true }
  if s.cfg.autoLeave then s'.autoLeaveRequest else s'

/-- What follows a change of a debounced value (R163, R165, R174). -/
def State.debounced (p : PanelInput) (s : State) : State :=
  match p with
  | .presence => State.servicePower (judgePower s.svc) { s with events.service.presenceChanged := true }
  | .latch => State.servicePower (judgePower s.svc) { s with events.service.latchChanged := true }
  | .button => if s.svc.button.value then s.buttonPress else s

/-- DEBOUNCE_EXPIRY (R163): the input's timer, while it runs, reaches 20 ms. -/
def execDebounceExpiry (p : PanelInput) (s : State) : Host.Outcome State Fault Refusal :=
  .next
    (if (s.svc.input p).timer.isSome then
      State.debounced p { s with svc := s.svc.setInput p (s.svc.input p).settle }
    else s)

/-- POWER_GOOD (R164, R166): a rising edge takes RISING to ON. With PNL_PGOOD already high the command is still taken as a rising edge, the
line having fallen unreported before it (DESIGN CHOICE, log 30). -/
def execPowerGood (s : State) : Host.Outcome State Fault Refusal :=
  let v : Service := { s.svc with pgood := true }
  .next (s.servicePower (if v.power = .rising then { v with power := .on, powerTimer := none } else v))

/-- POWER_GOOD_LOST (R164, R167): a falling edge takes ON to FAULT and FALLING to OFF, whatever level PNL_PGOOD showed before it (log 30). -/
def execPowerGoodLost (s : State) : Host.Outcome State Fault Refusal :=
  let v : Service := { s.svc with pgood := false }
  .next
    (s.servicePower
      (match v.power with
      | .on => enterPowerFault v
      | .falling => enterOff v
      | .off | .rising | .fault => v))

/-- POWER_TIMER_EXPIRY (R166, R167): RISING and FALLING go to FAULT. -/
def execPowerTimerExpiry (s : State) : Host.Outcome State Fault Refusal :=
  .next
    (match s.svc.power with
    | .rising | .falling => s.servicePower (enterPowerFault s.svc)
    | .off | .on | .fault => s)

/-- LED_BLINK_TOGGLE (R173). -/
def execLedBlinkToggle (s : State) : Host.Outcome State Fault Refusal :=
  .next (if s.svc.led = .blink then { s with svc.blinkHigh := !s.svc.blinkHigh, svc.blinkElapsed := 0 } else s)

end Sys2Proof.Machine
end

