-- ==== Sys2Proof/Machine/SubmissionUnit.lean ====
section
/-! DEFINITION. The submission unit: SUBMIT (R66, R67), the stage (R65), the palette holding registers (R68, R69), the cursor row builder
(R70, R71), the reads of RECEIPT and SUBMIT_STATUS (R67, R77). -/

namespace Sys2Proof.Machine

/-- The states in which a submission is accepted (R66). -/
def submits : StationState → Bool
  | .member | .joining | .loopback => true
  | .offline | .listening | .leaving | .fault => false

/-- The reason a submission is refused with: the first of the four conditions that fails, NONE when it is accepted (R66). -/
def State.refusalOf (c : Option Change) (s : State) : RefusalReason :=
  if submits s.ctl.state = false then .state
  else if (c.any fun c => changeValid s.geometry c) = false then .invalid
  else if Config.outboundCapacity ≤ s.sub.outbound.length then .queueFull
  else if s.credits = 0 then .noCredit
  else .none

/-- A refused submission (R67). -/
def State.refuse (reason : RefusalReason) (path : RefusalPath) (s : State) : State :=
  { s with sub.refused := true, sub.refusalReason := reason, sub.refusalPath := path }

/-- A submission from a path: a WAITING record at the tail of the outbound queue, or a refusal (R66, R67). -/
def State.submit (c : Option Change) (path : RefusalPath) (s : State) : State :=
  match c, s.refusalOf c with
  | some c, .none => { s with sub.outbound := s.sub.outbound ++ [⟨c, .waiting⟩] }
  | _, reason => s.refuse reason path

/-- SUBMIT (R66): the staged record, which the stage keeps (R65). -/
def execSubmit (s : State) : Host.Outcome State Fault Refusal :=
  .next ((s.portWrite (indexOf .command)).submit (stagedChange s.sub.stage) .stage)

/-- Stage byte `k` is replaced; there is none above 13 (R65, R178). -/
def State.storeStage (k : Nat) (value : Byte) (s : State) : State :=
  if h : k < 14 then { s with sub.stage := s.sub.stage.set k value } else s

/-- STAGE_WRITE (R65, R178): data byte `n` of a transaction addressed to STAGE_`reg` is stage byte `reg` + `n`; bytes after stage byte 13
are ignored. -/
def execStageWrite (reg : Fin 14) (n : Nat) (value : Byte) (s : State) : Host.Outcome State Fault Refusal :=
  .next ((s.portWriteAt (indexOf (.stage reg)) (n + 1)).storeStage (reg.val + n) value)

/-! ### The palette holding registers (R68, R69) -/

/-- PAL_INDEX_WRITE (R68). -/
def execPalIndexWrite (value : Byte) (s : State) : Host.Outcome State Fault Refusal :=
  let s' := s.portWrite (indexOf .palIndex)
  .next { s' with sub.palWrite.index := value, sub.palWrite.pointer := .red }

/-- The blue write: a PALETTE record is submitted; the index advances when it is accepted, and the pointer returns to RED (R68). -/
def State.blueWrite (value : Byte) (s : State) : State :=
  let h := s.sub.palWrite
  let colour : RGB := ⟨h.held.r, h.held.g, value⟩
  let change : Change := .palette h.index colour
  let s' : State :=
    { s with
      sub.palWrite := ⟨if s.refusalOf (some change) = .none then h.index + 1 else h.index, .red, colour⟩ }
  s'.submit (some change) .palette

/-- A component written through PAL_DATA (R68). -/
def State.paletteWrite (value : Byte) (s : State) : State :=
  match s.sub.palWrite.pointer with
  | .red => { s with sub.palWrite.held.r := value, sub.palWrite.pointer := .green }
  | .green => { s with sub.palWrite.held.g := value, sub.palWrite.pointer := .blue }
  | .blue => s.blueWrite value

/-- PAL_DATA_WRITE (R68). -/
def execPalDataWrite (value : Byte) (s : State) : Host.Outcome State Fault Refusal :=
  .next ((s.portWrite (indexOf .palData)).paletteWrite value)

/-- PAL_READ_INDEX_WRITE (R69). -/
def execPalReadIndexWrite (value : Byte) (s : State) : Host.Outcome State Fault Refusal :=
  let s' := s.portWrite (indexOf .palReadIndex)
  .next { s' with sub.palRead := ⟨value, .red, paletteAt s.obj.palette value⟩ }

/-- The byte a read of PAL_DATA returns (R69). -/
def PaletteHolding.current (h : PaletteHolding) : Byte :=
  match h.pointer with
  | .red => h.held.r
  | .green => h.held.g
  | .blue => h.held.b

/-- The read side after a read of PAL_DATA: the pointer moves on, and the blue read loads the next entry (R69). -/
def PaletteHolding.afterRead (p : Vector RGB 256) (h : PaletteHolding) : PaletteHolding :=
  match h.pointer with
  | .red => { h with pointer := .green }
  | .green => { h with pointer := .blue }
  | .blue => ⟨h.index + 1, .red, paletteAt p (h.index + 1)⟩

/-- PAL_DATA_READ (R69). -/
def execPalDataRead (s : State) : Host.Outcome State Fault Refusal :=
  let s' := s.portRead (indexOf .palData) s.sub.palRead.current
  .next { s' with sub.palRead := s.sub.palRead.afterRead s.obj.palette }

/-! ### The cursor row builder (R70, R71) -/

/-- The row an index value names: the value modulo 32. -/
def rowOf (value : Byte) : Fin 32 := ⟨value.toNat % 32, Nat.mod_lt _ (by decide)⟩

/-- CURSOR_ROW_INDEX_WRITE (R70, R71). -/
def execCursorRowIndexWrite (value : Byte) (s : State) : Host.Outcome State Fault Refusal :=
  let s' := s.portWrite (indexOf .cursorRowIndex)
  .next
    { s' with
      sub.curWrite.row := rowOf value
      sub.curWrite.pointer := 0
      sub.curRead := ⟨rowOf value, 0, s.obj.image[rowOf value]⟩ }

/-- A byte written through CURSOR_DATA; byte 7 submits the row, which advances when it is accepted (R70). -/
def State.cursorWrite (value : Byte) (s : State) : State :=
  let h := s.sub.curWrite
  let codes : CursorBytes := h.held.set h.pointer value
  if h.pointer.val < 7 then { s with sub.curWrite := ⟨h.row, h.pointer + 1, codes⟩ }
  else
    let change : Change := .cursorRow (BitVec.ofNat 8 h.row.val) codes
    let s' : State :=
      { s with sub.curWrite := ⟨if s.refusalOf (some change) = .none then h.row + 1 else h.row, 0, codes⟩ }
    s'.submit (some change) .cursor

/-- CURSOR_DATA_WRITE (R70). -/
def execCursorDataWrite (value : Byte) (s : State) : Host.Outcome State Fault Refusal :=
  .next ((s.portWrite (indexOf .cursorData)).cursorWrite value)

/-- The read side after a read of CURSOR_DATA: byte 7 loads the next row (R71). -/
def RowHolding.afterRead (image : Vector CursorBytes 32) (h : RowHolding) : RowHolding :=
  if h.pointer.val < 7 then { h with pointer := h.pointer + 1 } else ⟨h.row + 1, 0, image[h.row + 1]⟩

/-- CURSOR_DATA_READ (R71). -/
def execCursorDataRead (s : State) : Host.Outcome State Fault Refusal :=
  let s' := s.portRead (indexOf .cursorData) s.sub.curRead.held[s.sub.curRead.pointer]
  .next { s' with sub.curRead := s.sub.curRead.afterRead s.obj.image }

/-! ### Receipts and status (R67, R77) -/

/-- The receipt outcome code (Table 13-6). -/
def outcomeCode : ReceiptOutcome → Byte
  | .applied => 1
  | .rejectedOrder => 2
  | .rejectedConflict => 3
  | .rejectedField => 4
  | .discardedFull => 5
  | .notSent => 6
  | .uncertain => 7

/-- The five bytes of RECEIPT for a receipt (Table 13-8). -/
def receiptBytes (r : Receipt) : List Byte := [r.seq, kindCode r.kind, outcomeCode r.outcome] ++ halfBytes (r.eff.getD 0)

/-- The empty marker (R77). -/
def emptyMarker : List Byte := [0, 0, 0, 0, 0]

/-- The bytes a read of RECEIPT returns: the oldest receipt, or the empty marker (R77). -/
def State.receiptRegister (s : State) : List Byte :=
  match s.sub.receipts with
  | [] => emptyMarker
  | r :: _ => receiptBytes r

/-- RECEIPT_READ (R77): the oldest receipt is removed and returned. -/
def execReceiptRead (s : State) : Host.Outcome State Fault Refusal :=
  let s' := s.portReadWhole (indexOf .receipt) s.receiptRegister
  .next { s' with sub.receipts := s.sub.receipts.tail }

/-- The refusal reason code (Table 13-6). -/
def refusalCode : RefusalReason → Byte
  | .none => 0
  | .state => 1
  | .invalid => 2
  | .queueFull => 3
  | .noCredit => 4

/-- The refusal path code (Table 13-6). -/
def pathCode : RefusalPath → Byte
  | .none => 0
  | .stage => 1
  | .palette => 2
  | .cursor => 3

/-- The seven bytes of SUBMIT_STATUS (R67, Table 13-8). -/
def State.submitStatusBytes (s : State) : List Byte :=
  [BitVec.ofNat 8 s.credits, BitVec.ofNat 8 s.sub.outbound.length, BitVec.ofNat 8 s.inFlight,
    BitVec.ofNat 8 s.sub.receipts.length, flagByte s.sub.refused, refusalCode s.sub.refusalReason, pathCode s.sub.refusalPath]

/-- SUBMIT_STATUS_READ (R67): the read clears SUBMIT_REFUSED. -/
def execSubmitStatusRead (s : State) : Host.Outcome State Fault Refusal :=
  let s' := s.portReadWhole (indexOf .submitStatus) s.submitStatusBytes
  .next { s' with sub.refused := false }

end Sys2Proof.Machine
end

