-- ==== Sys2Proof/Machine/ControlPort.lean ====
section
/-! DEFINITION. The control port (chapter 12): the bytes every register returns (Tables 13-6 to 13-8), the read-to-clear registers
(R184, R188), configuration (R179), enables (R180), ignored writes (R178) and the end of a transaction (R177). -/

namespace Sys2Proof.Machine

/-! ### Codes (Table 13-6) -/

/-- Fault reason. -/
def faultCode : FaultReason → Byte
  | .none => 0
  | .strap => 1
  | .positionInUse => 2
  | .collision => 3
  | .geometry => 4

/-- Resync cause. -/
def causeCode : ResyncCause → Byte
  | .none => 0
  | .gap => 1
  | .frame => 2
  | .readback => 3
  | .merge => 4

/-- Roster entry state. -/
def entryCode : EntryState → Byte
  | .absent => 0
  | .joining => 1
  | .member => 2
  | .leaving => 3

/-- Readback result. -/
def readbackCode : ReadbackResult → Byte
  | .none => 0
  | .success => 1
  | .failure => 2

/-- Collection status. -/
def collectionCode : Collection → Byte
  | .idle => 0
  | .waiting => 1
  | .collecting => 2

/-- Power state. -/
def powerCode : PowerState → Byte
  | .off => 0
  | .rising => 1
  | .on => 2
  | .falling => 3
  | .fault => 4

/-- LED state. -/
def ledCode : LedState → Byte
  | .off => 0
  | .on => 1
  | .blink => 2

/-- Pending service command. -/
def serviceCommandCode : ServiceCommand → Byte
  | .none => 0
  | .powerOn => 1
  | .powerOff => 2

/-- Service outcome. -/
def serviceOutcomeCode : ServiceOutcome → Byte
  | .none => 0
  | .doneOn => 1
  | .doneOff => 2
  | .doneHeld => 3
  | .doneFault => 4
  | .doneLed => 5

/-! ### What each register returns (Table 13-8) -/

/-- A coordinate or a count as a 16-bit field. -/
def intHalf (v : Int) : List Byte := halfBytes (BitVec.ofInt 16 v)

/-- A coordinate as one byte. -/
def intByte (v : Int) : Byte := BitVec.ofInt 8 v

/-- STATION_STATUS (R33). -/
def State.stationStatusBytes (s : State) : List Byte :=
  [(stationCode s.ctl.state).setWidth 8, faultCode s.ctl.faultReason, joinCode s.ctl.joinReason, causeCode s.ctl.resyncCause,
    (match s.reference with
    | none => 0x10
    | some p => BitVec.ofNat 8 p.val),
    BitVec.ofNat 8 s.ctl.countdown]

/-- ROSTER (R54). -/
def State.rosterBytes (s : State) : List Byte :=
  (List.finRange 16).flatMap fun p => [entryCode (s.entry p).state, BitVec.ofNat 8 (s.entry p).miss]

/-- SCHEDULE_STATUS (R82). -/
def State.scheduleStatusBytes (s : State) : List Byte :=
  BitVec.ofNat 8 s.sched.list.length ::
    match s.sched.list with
    | [] => [0, 0, 0]
    | r :: _ => 1 :: halfBytes r.eff

/-- SNAPSHOT_STATUS (R147); fields without a meaning in the present status read 0, and the next part index reads as held (log 15). -/
def State.snapshotStatusBytes (s : State) : List Byte :=
  let c := s.snap.coll == .collecting
  [flagByte s.snap.streaming] ++ halfBytes (if s.snap.streaming then s.snap.streamFrame else 0)
    ++ [BitVec.ofNat 8 s.snap.nextPart, collectionCode s.snap.coll] ++ halfBytes (if c then s.snap.collFrame else 0)
    ++ [if c then BitVec.ofNat 8 s.snap.collSource.val else 0, if c then BitVec.ofNat 8 s.snap.nextExpected else 0,
      flagByte s.snap.eLost.isSome] ++ halfBytes (s.snap.eLost.getD 0)

/-- The placement bytes of COMPOSE_STATUS. -/
def placementBytes : Option Placement → List Byte
  | none => List.replicate 9 0
  | some p =>
    [1] ++ intHalf p.startX ++ intHalf p.startY ++ [intByte p.presetX, intByte p.presetY, intByte p.extentW, intByte p.extentH]

/-- COMPOSE_STATUS (R161). -/
def State.composeStatusBytes (s : State) : List Byte :=
  [flagByte s.comp.showing, flagByte s.comp.hidden, BitVec.ofNat 8 s.comp.views.length]
    ++ (s.comp.views.map (fun (v : View) => BitVec.ofNat 8 v.id.val) ++ List.replicate 4 0).take 4
    ++ [BitVec.ofNat 8 s.comp.qualifying, bitsByte [s.comp.overflow, s.comp.cursorOnTile]]
    ++ placementBytes s.comp.placement

/-- SERVICE_STATUS (R175). -/
def State.serviceStatusBytes (s : State) : List Byte :=
  let v := s.svc
  [bitsByte [v.presence.value, v.latch.value, v.button.value, v.pgood], flagByte v.request, powerCode v.power,
    flagByte v.powerTimer.isSome, ledCode v.led, flagByte v.follow, serviceCommandCode v.command, serviceOutcomeCode v.outcome]

/-- SHOW_LIVE (R115). -/
def State.showLiveBytes (s : State) : List Byte :=
  [showCode s.shows.state, showArgByte s.shows.state, BitVec.ofNat 8 s.shows.countdown, wordCode s.shows.lastWord]

/-- CURSOR_LIVE (R111). -/
def State.cursorLiveBytes (s : State) : List Byte :=
  [flagByte s.obj.look.visible] ++ rgbBytes s.obj.look.colourA ++ rgbBytes s.obj.look.colourB ++ halfBytes s.obj.curX
    ++ halfBytes s.obj.curY

/-- The byte of an event set (R184, Table 13-7). -/
def State.eventByte (s : State) : EventSet → Byte
  | .fault => flagByte s.events.fault
  | .wall => s.events.wall.byte
  | .service => s.events.service.byte
  | .frame => s.events.frame.byte

/-- The count of a counter (R188). -/
def State.counterByte (s : State) : CounterName → Byte
  | .badMessages => s.bus.badMessages
  | .earlyStrobes => s.timer.earlyStrobes
  | .outOfWindow => s.sched.outOfWindow

/-- CONFIG_TILE and CONFIG_WALL (R179). -/
def Configuration.bytes (c : Configuration) : ConfigReg → List Byte
  | .tile => halfBytes c.tileW ++ halfBytes c.tileH
  | .wall => halfBytes c.period ++ [c.lead, c.silence, flagByte c.autoLeave]

/-- The bytes a read of a register returns, taken at its first data byte (R177, R178, Table 13-8). A write-only data port reads 0. -/
def State.registerBytes (s : State) : Register → List Byte
  | .stationStatus => s.stationStatusBytes
  | .busStatus => [readbackCode s.bus.readback, BitVec.ofNat 8 s.bus.runCount]
  | .frameNumber => halfBytes s.timer.frame
  | .straps => [BitVec.ofNat 8 s.straps.pos.val, BitVec.ofNat 8 s.straps.columns, BitVec.ofNat 8 s.straps.rowCount]
  | .roster => s.rosterBytes
  | .submitStatus => s.submitStatusBytes
  | .scheduleStatus => s.scheduleStatusBytes
  | .snapshotStatus => s.snapshotStatusBytes
  | .composeStatus => s.composeStatusBytes
  | .serviceStatus => s.serviceStatusBytes
  | .showLive => s.showLiveBytes
  | .cursorLive => s.cursorLiveBytes
  | .backgroundLive => [s.obj.background]
  | .windowsLive => s.obj.windows.toList.flatMap windowEntryBytes
  | .irqIdent => [s.irqIdent]
  | .events set => [s.eventByte set]
  | .counter c => [s.counterByte c]
  | .config reg => s.cfg.bytes reg
  | .irqEnable => [s.events.enables.byte]
  | .receipt => s.receiptRegister
  | .palData => [s.sub.palRead.current]
  | .cursorData => [s.sub.curRead.held[s.sub.curRead.pointer]]
  | .stage k => [s.sub.stage[k]]
  | .command | .serviceControl | .palIndex | .palReadIndex | .cursorRowIndex => [0]

/-- The bytes a read transaction on an index takes at its first data byte (R177, R178): a STAGE transaction goes on to the next stage
bytes, and an index that names no register has none. -/
def State.readBytes (index : BitVec 7) (s : State) : List Byte :=
  match registerAt index with
  | none => []
  | some (.stage k) => s.sub.stage.toList.drop k.val
  | some r => s.registerBytes r

/-- PAL_DATA and CURSOR_DATA, where each data byte of a read transaction is a read of its own (R178, R69, R71). -/
def readsEachByte (index : BitVec 7) : Bool := index == indexOf .palData || index == indexOf .cursorData

/-- Data byte `n` (from 0) of a read transaction on an index (R177, R178), from the state at the start of its first data byte; at PAL_DATA
and CURSOR_DATA from the state at the start of byte `n` itself, whose read returns the held copy (R110). Bytes beyond a register's width
and every byte of an index that names no register are 0. -/
def readDataByte (index : BitVec 7) (s : State) (n : Nat) : Byte :=
  (s.readBytes index).getD (if readsEachByte index then 0 else n) 0

/-! ### Reads that clear (R184, R188) -/

/-- The flags of an event set are cleared. -/
def Events.clearSet (e : Events) : EventSet → Events
  | .fault => { e with fault := false }
  | .wall => { e with wall := clearWall }
  | .service => { e with service := clearService }
  | .frame => { e with frame := clearFrame }

/-- EVENT_SET_READ (R184): the flags are returned and cleared. -/
def execEventSetRead (set : EventSet) (s : State) : Host.Outcome State Fault Refusal :=
  let s' := s.portReadWhole (indexOf (.events set)) [s.eventByte set]
  .next { s' with events := s.events.clearSet set }

/-- COUNTER_READ (R188): the count is returned and cleared. -/
def execCounterRead (c : CounterName) (s : State) : Host.Outcome State Fault Refusal :=
  let s' := s.portReadWhole (indexOf (.counter c)) [s.counterByte c]
  .next
    (match c with
    | .badMessages => { s' with bus.badMessages := 0 }
    | .earlyStrobes => { s' with timer.earlyStrobes := 0 }
    | .outOfWindow => { s' with sched.outOfWindow := 0 })

/-! ### Configuration and enables (R179, R180) -/

/-- Tile width and height in range: 64-4096 and multiples of 8. -/
def tileSizeValid (v : Half) : Bool := decide (64 ≤ v.toNat ∧ v.toNat ≤ 4096 ∧ v.toNat % 8 = 0)

/-- Every field of a configuration in range (R179). -/
def Configuration.inRange (c : Configuration) : Bool :=
  tileSizeValid c.tileW && tileSizeValid c.tileH
    && decide (10000 ≤ c.period.toNat ∧ c.period.toNat ≤ 40000 ∧ 1 ≤ c.lead.toNat ∧ c.lead.toNat ≤ 15 ∧ 2 ≤ c.silence.toNat
      ∧ c.silence.toNat ≤ 15)

/-- The configuration with the fields of a written register replaced, or none while the register's last byte has not come (R179, R177);
bytes beyond the width are ignored (R178). -/
def Configuration.written (c : Configuration) : ConfigReg → List Byte → Option Configuration
  | .tile, w0 :: w1 :: h0 :: h1 :: _ => some { c with tileW := halfOf w0 w1, tileH := halfOf h0 h1 }
  | .wall, p0 :: p1 :: l :: sl :: a :: _ =>
    some { c with period := halfOf p0 p1, lead := l, silence := sl, autoLeave := a.getLsbD 0 }
  | _, _ => none

/-- Whether the written fields are in range (R179). -/
def writeInRange (c : Configuration) : ConfigReg → Bool
  | .tile => tileSizeValid c.tileW && tileSizeValid c.tileH
  | .wall =>
    decide (10000 ≤ c.period.toNat ∧ c.period.toNat ≤ 40000 ∧ 1 ≤ c.lead.toNat ∧ c.lead.toNat ≤ 15 ∧ 2 ≤ c.silence.toNat
      ∧ c.silence.toNat ≤ 15)

/-- A configuration write is judged when its last byte arrives: taken in OFFLINE with its fields in range, and otherwise ignored whole with
WRITE_IGNORED (R179). -/
def State.takeConfig (reg : ConfigReg) (written : Option Configuration) (s : State) : State :=
  match written with
  | none => s
  | some c => if s.ctl.state = .offline ∧ writeInRange c reg = true then { s with cfg := c } else s.raiseWriteIgnored

/-- CONFIG_WRITE (R179). -/
def execConfigWrite (reg : ConfigReg) (bytes : List Byte) (s : State) : Host.Outcome State Fault Refusal :=
  .next ((s.portWriteAt (indexOf (.config reg)) bytes.length).takeConfig reg (s.cfg.written reg bytes))

/-- IRQ_ENABLE_WRITE (R180). -/
def execIrqEnableWrite (value : Byte) (s : State) : Host.Outcome State Fault Refusal :=
  let s' := s.portWriteAt (indexOf .irqEnable) 1
  .next { s' with events.enables := enablesOf value }

/-- IGNORED_WRITE (R178): nothing changes but the transaction. -/
def execIgnoredWrite (index : BitVec 7) (_value : Byte) (s : State) : Host.Outcome State Fault Refusal :=
  .next (s.portWrite index)

/-- SPI_TRANSACTION_END (R177): the port returns to IDLE. -/
def execSpiTransactionEnd (s : State) : Host.Outcome State Fault Refusal := .next { s with port := idlePort }

end Sys2Proof.Machine
end

