-- ==== Sys2Proof/Machine/Resets.lean ====
section
/-! DEFINITION. The two resets (1.5.9): PIN_RESET (R61 and the reset rule of each chapter) and RESET_STATION (R182). -/

namespace Sys2Proof.Machine

/-- PIN_RESET (R19, R32, R61, R79, R98, R114, R128, R148, R162, R176, R189). The commands that wait stay in the queue. -/
def execPinReset (pins : ResetPins) (s : State) : Host.Outcome State Fault Refusal :=
  .next (State.afterPinReset pins s.pending)

/-- The bad-message counter at a RESET_STATION: a reception attempt in progress ends as invalid and is counted by R5, except a readback
(R19). -/
def State.badAtReset (s : State) : Byte :=
  if s.bus.attempt = .receiving ∧ s.readbackSlot = false ∧ s.ctl.state ≠ .loopback then satInc s.bus.badMessages
  else s.bus.badMessages

/-- RESET_STATION (R182, Table 12-1): the wall side takes its reset values; straps, configuration, counters, service controller, SERVICE
events, enables and the transaction are kept. -/
def State.resetStation (s : State) : State :=
  { straps := s.straps
    cfg := s.cfg
    bus := resetBus s.badAtReset
    timer := resetTimer s.cfg.period s.timer.earlyStrobes
    ctl := resetController
    roster := clearedRoster
    sub := resetSubmission
    sched := resetSchedule s.sched.outOfWindow
    obj := defaultObjects
    shows := resetShow
    snap := resetSnapshot
    comp := resetCompositor s.straps s.cfg
    svc := s.svc
    port := s.port
    events := { s.events with fault := false, wall := clearWall, frame := clearFrame }
    pending := s.pending }

/-- RESET_STATION written to COMMAND (R182). -/
def execResetStation (s : State) : Host.Outcome State Fault Refusal :=
  .next (s.portWrite (indexOf .command)).resetStation

end Sys2Proof.Machine
end

