-- ==== Sys2Proof/Machine/Compositor.lean ====
section
/-! DEFINITION. The pixel output (R154, R156, R159, R160): what the part drives on PIX_R, PIX_G, PIX_B and PIX_DE. The pixel index and valid
line of the video sources are an argument (R154, log 18), and so is how far a picture has come (log 31). -/

namespace Sys2Proof.Machine

/-- What the eight video sources present in the frame in progress: the pixel index of a source at a source coordinate, or none when the
valid line is low there (R154). -/
abbrev Sources := BitVec 4 → Int → Int → Option Byte

/-- The topmost view at a point (R154 step 1); none while windows are hidden (R155). -/
def Compositor.viewAt (k : Compositor) (u v : Int) : Option View :=
  if k.hidden then none else k.views.find? fun e => e.clip.holds u v

/-- The source pixel a view shows at a point (R151, R154 step 2). -/
def View.sourcePixel (sources : Sources) (e : View) (u v : Int) : Option Byte :=
  sources e.source (e.originX + u - e.clip.x0) (e.originY + v - e.clip.y0)

/-- The colour beneath the cursor (R154 steps 2 and 3). -/
def State.colourBeneath (sources : Sources) (s : State) (u v : Int) : RGB :=
  let background := paletteAt s.obj.palette s.obj.background
  match s.comp.viewAt u v with
  | none => background
  | some e =>
    match e.sourcePixel sources u v with
    | none => background
    | some index => paletteAt s.obj.palette index

/-- The code at a column and row of the cursor image (Table 13-3). -/
def cursorCode (image : Vector CursorBytes 32) (column row : Nat) : BitVec 2 :=
  (((image[row]?.getD blankRow)[column / 4]?).getD 0).extractLsb' (2 * (column % 4)) 2

/-- The complement of a colour (R156). -/
def complement (c : RGB) : RGB := ⟨255 - c.r, 255 - c.g, 255 - c.b⟩

/-- The cursor code laid over a point, or none outside the cursor's piece or while it is not visible (R156, R157). -/
def State.cursorAt (s : State) (u v : Int) : Option (BitVec 2) :=
  match s.comp.placement with
  | none => none
  | some p =>
    if s.obj.look.visible = true ∧ p.startX ≤ u ∧ u < p.startX + p.extentW ∧ p.startY ≤ v ∧ v < p.startY + p.extentH then
      some (cursorCode s.obj.image (p.presetX + u - p.startX).toNat (p.presetY + v - p.startY).toNat)
    else none

/-- The pixel a cursor code makes of the colour beneath (R156). -/
def cursorPixel (look : CursorLook) (beneath : RGB) (code : BitVec 2) : RGB :=
  match code.toNat with
  | 0 => beneath
  | 1 => look.colourA
  | 2 => look.colourB
  | _ => complement beneath

/-- The pixel driven at tile-local point (u, v): black in BLANK (R159), and otherwise the colour of R154 with the cursor of R156. -/
def State.pixelAt (sources : Sources) (s : State) (u v : Int) : RGB :=
  if s.comp.showing then
    let beneath := s.colourBeneath sources u v
    match s.cursorAt u v with
    | none => beneath
    | some code => cursorPixel s.obj.look beneath code
  else ⟨0, 0, 0⟩

/-- The width of the tile rectangle in force: the one taken at the last recompute (R149). -/
def Compositor.width (k : Compositor) : Nat := (k.tile.x1 - k.tile.x0).toNat

/-- The height of the tile rectangle in force (R149). -/
def Compositor.height (k : Compositor) : Nat := (k.tile.y1 - k.tile.y0).toNat

/-- PIX_DE when `n` pixels of the frame's picture have been sent: high for each pixel of the picture (R160). Between a reset and the first
frame start, of which R160 says nothing, it is high for the same `n`, as of a BLANK picture (DESIGN CHOICE, log 31). -/
def State.pixDe (s : State) (n : Nat) : Bool := decide (n < s.comp.width * s.comp.height)

/-- What the part drives when `n` pixels of the frame's picture have been sent: the next pixel in raster order, left to right along each
tile row and the rows from top to bottom, and none while PIX_DE is low (R160). -/
def State.pixelOut (sources : Sources) (s : State) (n : Nat) : Option RGB :=
  if s.pixDe n then some (s.pixelAt sources ↑(n % s.comp.width) ↑(n / s.comp.width)) else none

/-- The whole picture of a frame in raster order (R160). -/
def State.picture (sources : Sources) (s : State) : List RGB :=
  (List.range s.comp.height).flatMap fun v => (List.range s.comp.width).map fun u => s.pixelAt sources u v

/-- The picture of a frame that a frame start ends when `n` pixels have been sent: it ends where it stands (R160). -/
def State.pictureCut (sources : Sources) (n : Nat) (s : State) : List RGB := (s.picture sources).take n

end Sys2Proof.Machine
end

