-- ==== Sys2Proof/Machine/Dispatch.lean ====
section
/-! DEFINITION. One arm per command: the meaning each command has. -/

namespace Sys2Proof.Machine

/-- The effect of a command on everything but the queue. -/
def exec (i : Instr) (s : State) : Host.Outcome State Fault Refusal :=
  match i with
  | .pinReset pins => Sys2Proof.Machine.execPinReset pins s
  | .resetStation => Sys2Proof.Machine.execResetStation s
  | .ownFrameTimerExpiry => Sys2Proof.Machine.execOwnFrameTimerExpiry s
  | .wbStrobeEdge reading => Sys2Proof.Machine.execWbStrobeEdge reading s
  | .strobeDriveEnd => Sys2Proof.Machine.execStrobeDriveEnd s
  | .slotOpen slot => Sys2Proof.Machine.execSlotOpen slot s
  | .ownSlotOpen => Sys2Proof.Machine.execOwnSlotOpen s
  | .transmitComplete => Sys2Proof.Machine.execTransmitComplete s
  | .slotClose slot => Sys2Proof.Machine.execSlotClose slot s
  | .messageReceived bytes stopBit => Sys2Proof.Machine.execMessageReceived bytes stopBit s
  | .readback bytes stopBit => Sys2Proof.Machine.execReadback bytes stopBit s
  | .loopedHandover => Sys2Proof.Machine.execLoopedHandover s
  | .join => Sys2Proof.Machine.execJoin s
  | .leave => Sys2Proof.Machine.execLeave s
  | .loopback => Sys2Proof.Machine.execLoopback s
  | .unloop => Sys2Proof.Machine.execUnloop s
  | .clearFault => Sys2Proof.Machine.execClearFault s
  | .submit => Sys2Proof.Machine.execSubmit s
  | .unknownCommand value => Sys2Proof.Machine.execUnknownCommand value s
  | .stageWrite reg n value => Sys2Proof.Machine.execStageWrite reg n value s
  | .palIndexWrite value => Sys2Proof.Machine.execPalIndexWrite value s
  | .palDataWrite value => Sys2Proof.Machine.execPalDataWrite value s
  | .palReadIndexWrite value => Sys2Proof.Machine.execPalReadIndexWrite value s
  | .palDataRead => Sys2Proof.Machine.execPalDataRead s
  | .cursorRowIndexWrite value => Sys2Proof.Machine.execCursorRowIndexWrite value s
  | .cursorDataWrite value => Sys2Proof.Machine.execCursorDataWrite value s
  | .cursorDataRead => Sys2Proof.Machine.execCursorDataRead s
  | .receiptRead => Sys2Proof.Machine.execReceiptRead s
  | .submitStatusRead => Sys2Proof.Machine.execSubmitStatusRead s
  | .eventSetRead set => Sys2Proof.Machine.execEventSetRead set s
  | .counterRead counter => Sys2Proof.Machine.execCounterRead counter s
  | .configWrite reg bytes => Sys2Proof.Machine.execConfigWrite reg bytes s
  | .irqEnableWrite value => Sys2Proof.Machine.execIrqEnableWrite value s
  | .ignoredWrite index value => Sys2Proof.Machine.execIgnoredWrite index value s
  | .powerOn led => Sys2Proof.Machine.execPowerOn led s
  | .powerOff led => Sys2Proof.Machine.execPowerOff led s
  | .serviceLed led => Sys2Proof.Machine.execServiceLed led s
  | .panelLineChange input level => Sys2Proof.Machine.execPanelLineChange input level s
  | .debounceExpiry input => Sys2Proof.Machine.execDebounceExpiry input s
  | .powerGood => Sys2Proof.Machine.execPowerGood s
  | .powerGoodLost => Sys2Proof.Machine.execPowerGoodLost s
  | .powerTimerExpiry => Sys2Proof.Machine.execPowerTimerExpiry s
  | .ledBlinkToggle => Sys2Proof.Machine.execLedBlinkToggle s
  | .spiTransactionEnd => Sys2Proof.Machine.execSpiTransactionEnd s

end Sys2Proof.Machine
end

