-- ==== Sys2Proof/Machine/SpiPins.lean ====
section
/-! DEFINITION. The pins of the control port (R177): what a fall of SPI_CS_N and the edges of SPI_SCK make of a transaction, the index byte,
which command each data byte is, and what SPI_MISO drives. The rise of SPI_CS_N is the command SPI_TRANSACTION_END. -/

namespace Sys2Proof.Machine

/-- The state a command leads to; no command stops. -/
def effect (c : Instr) (s : State) : State :=
  match exec c s with
  | .next t => t
  | .fault f => nomatch f
  | .refused _ => s

/-- The byte of eight bits, most significant first (R177). -/
def byteOfBits (bits : List Bool) : Byte := bits.foldl (fun b x => (b <<< 1) ||| flagByte x) 0

/-- The bits of a byte, most significant first (R177). -/
def bitsOfByte (b : Byte) : List Bool := (List.range 8).map b.getMsbD

/-- SPI_CS_N falls: a transaction begins (R177). -/
def State.spiSelect (s : State) : State := { s with port := { idlePort with selected := true } }

/-- One more data byte of the transaction is taken and changes nothing else. -/
def State.countByte (s : State) : State :=
  { s with port.transaction := s.port.transaction.map fun t => { t with count := t.count + 1 } }

/-- The read of data byte `n` of a read transaction is taken (R177, R178): the command it is, or, at a register whose read changes nothing,
the bytes taken at the first data byte. -/
def State.takeRead (index : BitVec 7) (n : Nat) (s : State) : State :=
  match readCommand index n with
  | some c => effect c s
  | none => if n = 0 then s.portReadWhole index (s.readBytes index) else s.countByte

/-- The index byte (R177): bit 7 the direction, bits 6-0 the register index. The read of a read transaction is taken now. -/
def State.takeIndex (b : Byte) (s : State) : State :=
  let index := b.extractLsb' 0 7
  let s' : State := { s with port := s.port.inTransaction ⟨b.msb, index, 0⟩ [] }
  if b.msb then s'.takeRead index 0 else s'

/-- A data byte of a write transaction (R177, R178): the command it is; a byte beyond a register's width is ignored. -/
def State.takeWrite (index : BitVec 7) (b : Byte) (s : State) : State :=
  match writeCommand index s.port.data b with
  | some c => effect c s
  | none => s.countByte

/-- A byte has been clocked in whole: the index byte, or a data byte. -/
def State.spiByte (b : Byte) (s : State) : State :=
  match s.port.transaction with
  | none => s.takeIndex b
  | some t =>
    let s' := if t.read then s else s.takeWrite t.index b
    { s' with port.data := s.port.data ++ [b] }

/-- The start of the byte whose first bit is clocked: in a read transaction the read of a data byte after the first is taken here, so that
each data byte clocked is one read (R178; DESIGN CHOICE, log 32). -/
def State.beginByte (s : State) : State :=
  match s.port.transaction with
  | some t => if t.read = true ∧ s.port.shift = [] ∧ t.count = s.port.data.length then s.takeRead t.index t.count else s
  | none => s

/-- A rising edge of SPI_SCK with SPI_MOSI at a level: one bit, ignored while SPI_CS_N is high or the transaction was discarded by a pin
reset (R177). -/
def State.spiClock (mosi : Bool) (s : State) : State :=
  if s.port.selected then
    let s' := s.beginByte
    let bits := s'.port.shift ++ [mosi]
    if bits.length < 8 then { s' with port.shift := bits } else State.spiByte (byteOfBits bits) { s' with port.shift := [] }
  else s

/-- Eight edges of SPI_SCK that carry a byte. -/
def State.spiShift (b : Byte) (s : State) : State := (bitsOfByte b).foldl (fun s x => s.spiClock x) s

/-- The byte a read transaction is returning. -/
def Port.outByte (p : Port) (t : Transaction) : Byte := p.out.getD (if readsEachByte t.index then 0 else t.count - 1) 0

/-- What SPI_MISO shows at the next rising edge of SPI_SCK (R177): none is high impedance, a write transaction drives 0, and so does the
index byte (DESIGN CHOICE, log 32). After a pin reset that discarded a transaction R177 says nothing of SPI_MISO while SPI_CS_N is still
low: it stays released until the next fall (DESIGN CHOICE, log 32). -/
def State.miso (s : State) : Option Bool :=
  if s.port.selected then
    let p := s.beginByte.port
    match p.transaction with
    | some t => some (t.read && (p.outByte t).getMsbD p.shift.length)
    | none => some false
  else none

end Sys2Proof.Machine
end

