-- ==== Sys2Proof/Safety.lean ====
section
/-! DEFINITION. What the statements speak of: the invariants of every state the part can be in, the messages that may be sent, the moments
at which a window stands open, the receipts of a clear of the wall side, the records that arrive together, and the show work of an
install. -/

namespace Sys2Proof.Machine

/-- Every configuration field is in its range (R179). -/
def ConfigInv (s : State) : Prop := s.cfg.inRange = true

/-- The pending list holds at most 48 records and never two of one origin and sequence number (R81). -/
def ListInv (s : State) : Prop :=
  s.sched.list.length ≤ Config.pendingCapacity
    ∧ s.sched.list.Pairwise fun a b => ¬(a.origin = b.origin ∧ a.seq = b.seq)

/-- The outbound queue holds at most 8 records, and outbound records, own in-flight records and unread receipts together never exceed 16
(R72, R76, R78). -/
def CreditInv (s : State) : Prop :=
  s.sub.outbound.length ≤ Config.outboundCapacity
    ∧ s.sub.outbound.length + s.inFlight + s.sub.receipts.length ≤ Config.creditTotal

/-- The pace countdown is 1 to the pace factor in PACED, the factor 2-8, and the countdown 0 in the other show states (Show Control,
chapter head; R117, R118). -/
def ShowInv (s : State) : Prop :=
  match s.shows.state with
  | .paced n => 2 ≤ n ∧ n ≤ 8 ∧ 1 ≤ s.shows.countdown ∧ s.shows.countdown ≤ n
  | .stopped _ | .running | .held => s.shows.countdown = 0

/-- At most four views and eight qualifying windows; the overflow flag says that more than four qualify; windows are hidden just in STOPPED
with BLANK (R150, R152, R155). -/
def ViewInv (s : State) : Prop :=
  s.comp.views.length ≤ 4 ∧ s.comp.qualifying ≤ 8 ∧ (s.comp.overflow = true ↔ 4 < s.comp.qualifying)
    ∧ (s.comp.hidden = true ↔ s.shows.state = .stopped .blank)

/-- The compositor is true to the live objects on the tile rectangle in force: the view list, the qualifying count and the overflow flag
(R150, R152), the cursor placement and the cursor-on-tile flag (R157, R158). In the states that may show picture that rectangle is the one
of the straps and CONFIG_TILE (R149). -/
def ComposeInv (s : State) : Prop :=
  s.comp.views = deriveViews s.comp.tile s.obj.windows
    ∧ s.comp.qualifying = (qualifying s.comp.tile s.obj.windows).length
    ∧ s.comp.overflow = decide (Config.viewCapacity < s.comp.qualifying)
    ∧ s.comp.placement = placementOf s.comp.tile s.obj.curX s.obj.curY
    ∧ s.comp.cursorOnTile = (s.obj.look.visible && s.comp.placement.isSome)
    ∧ (applies s.ctl.state = true → s.comp.tile = tileRect s.straps s.cfg)

/-- The service controller: the power timer runs just in RISING and FALLING, a command is pending only there, the request is OFF while a
POWER_OFF is pending, the power condition holds in RISING and ON, and a debounce timer runs just while its raw line differs from the
debounced value (R163, R165-R167, R170, R172). -/
def PanelInv (s : State) : Prop :=
  (s.svc.powerTimer.isSome = true ↔ s.svc.power = .rising ∨ s.svc.power = .falling)
    ∧ (s.svc.command ≠ .none → s.svc.power = .rising ∨ s.svc.power = .falling)
    ∧ (s.svc.command = .powerOff → s.svc.request = false)
    ∧ (s.svc.power = .rising ∨ s.svc.power = .on → s.svc.request = true ∧ s.svc.presence.value = true ∧ s.svc.latch.value = true)
    ∧ ∀ p, (s.svc.input p).timer.isSome = true ↔ (s.svc.input p).raw ≠ (s.svc.input p).value

/-- What the station state fixes in the other blocks. -/
structure StationInv (s : State) : Prop where
  /-- WB_STROBE is driven only in the transmitting states (R22). -/
  driving : s.timer.driving = true → transmits s.ctl.state = true
  /-- The pair is driven only in the transmitting states (R1). -/
  sending : s.bus.sending = true → transmits s.ctl.state = true
  /-- A message on the pair waits for its readback only in the transmitting states (R14). -/
  awaitingPair : s.bus.awaiting = .pair → transmits s.ctl.state = true
  /-- A looped message waits for its hand-over only in LOOPBACK (R18). -/
  awaitingLooped : s.bus.awaiting = .looped → s.ctl.state = .loopback
  /-- The run count is 0 or 1 between events, and 0 outside the transmitting states (R16). -/
  runCount : s.bus.runCount ≤ 1 ∧ (transmits s.ctl.state = false → s.bus.runCount = 0)
  /-- A stream runs only in MEMBER (R133). -/
  streaming : s.snap.streaming = true → s.ctl.state = .member
  /-- The collection status is IDLE just outside JOINING (R135). -/
  collection : s.snap.coll = .idle ↔ s.ctl.state ≠ .joining
  /-- E_lost is valid in JOINING and invalid outside LISTENING and JOINING (R136). -/
  eLost : (s.ctl.state = .joining → s.snap.eLost.isSome = true)
    ∧ (s.snap.eLost.isSome = true → s.ctl.state = .listening ∨ s.ctl.state = .joining)
  /-- A listening that has heard a member has its E_lost (R40). -/
  heard : s.ctl.state = .listening → s.ctl.memberHeard = true → s.snap.eLost.isSome = true
  /-- In OFFLINE and FAULT the pending list and the outbound queue are empty (R34, R53). -/
  quiet : s.ctl.state = .offline ∨ s.ctl.state = .fault → s.sched.list = [] ∧ s.sub.outbound = []
  /-- The own leave frame is there in LEAVING only (R49). -/
  leaveFrame : s.ctl.leaveFrame.isSome = true ↔ s.ctl.state = .leaving
  /-- The fault reason is NONE just outside FAULT (R39, R53). -/
  faultReason : s.ctl.faultReason = .none ↔ s.ctl.state ≠ .fault
  /-- The roster is clear in OFFLINE, FAULT and LOOPBACK (R34, R37, R53). -/
  roster : s.ctl.state = .offline ∨ s.ctl.state = .fault ∨ s.ctl.state = .loopback → s.roster = clearedRoster
  /-- The output state is SHOWING only while the station is MEMBER, LEAVING or LOOPBACK and the power state is ON (R159). -/
  showing : s.comp.showing = true → applies s.ctl.state = true ∧ s.svc.power = .on

/-- A change that the bus can carry as it stands: the present nibble of a window record with fields is not 0 (R190). -/
def Change.carried : Change → Prop
  | .windowPresent _ flag _ => flag ≠ 0
  | .palette _ _ | .cursorMove _ _ | .cursorLook _ _ _ | .cursorRow _ _ | .windowAbsent _ | .background _ | .showRec _ _ => True

/-- The body is well formed for its kind (Table 2-1); `frame` is the header frame number. -/
def Body.wellFormed (frame : Frame) : Body → Prop
  | .join reason => reason ≠ .none
  | .leave f => frameAfter f frame = true
  | .changes records => 1 ≤ records.length ∧ records.length ≤ 4 ∧ ∀ r ∈ records, r.1.carried
  | .part _ _ _ data => 1 ≤ data.length ∧ data.length ≤ 64
  | .idle => True

/-- A message whose sender state, member set and body agree with its kind (checks 3 to 6 of R3, Table 2-1). -/
def Message.wellFormed (m : Message) : Prop :=
  m.state = m.body.senderState ∧ (inSet m.members m.sender = true ↔ m.state = .member) ∧ m.body.wellFormed m.frame

/-- The window of a peer is open, its attempt has not begun, and the message is one that this peer may send. -/
def State.mayHear (s : State) (m : Message) : Prop :=
  m.wellFormed ∧ m.sender ≠ s.own ∧ s.timer.openSlot = some m.sender ∧ s.bus.attempt = .waiting

/-- The own window stands open and its message has not been built in this frame (R10). -/
def State.ownSlotReady (s : State) : Prop :=
  s.timer.noGuard = false ∧ s.timer.ownOpened = false ∧ s.timer.openSlot = some s.own

/-- The part stands between two frame starts with no window open: the second half of a frame (R2, R25). -/
def State.betweenSlots (s : State) : Prop := s.timer.openSlot = none

/-! ### The clear of the wall side (R34, R53) -/

/-- The receipts of a clear of the wall side (R75, R76, R97): UNCERTAIN for the own in-flight records in list order, then NOT_SENT for the
outbound records in queue order. A BEING_SENT record keeps its number; a WAITING one takes the own sequence counter, advanced by the WAITING
records before it. -/
def State.clearedReceipts (s : State) : List Receipt :=
  ((s.sched.list.filter fun r => r.origin == s.own).map fun r => ⟨r.seq, r.change.kind, .uncertain, some r.eff⟩) ++
    s.sub.outbound.mapIdx fun i r =>
      let seq := match r.status with
        | .beingSent n _ => n
        | .waiting => s.sub.ownSeq + BitVec.ofNat 8 ((s.sub.outbound.take i).countP fun x => x.status == .waiting)
      ⟨seq, r.change.kind, .notSent, none⟩

/-- The submission unit after a clear of the wall side: its receipts given, its queue empty, its counter past the WAITING records (R75). -/
def State.subCleared (s : State) : Submission :=
  { s.sub with
    outbound := []
    ownSeq := s.sub.ownSeq + BitVec.ofNat 8 (s.sub.outbound.countP fun x => x.status == .waiting)
    receipts := s.sub.receipts ++ s.clearedReceipts }

/-! ### Records that arrive one after the other (R86, R87) -/

/-- What has become of records that arrived: the pending list, the out-of-window counter, and the records that found no room. -/
structure Intake where
  list : List HeldRecord
  outOfWindow : Byte
  refused : List HeldRecord
  deriving DecidableEq, Repr

/-- A record arrives in frame `frame` (R80, R81, R86, R87): one that is not due at `frame` + L is counted, one that finds room takes its
place in the list, and the others are refused. -/
def Intake.take (frame : Frame) (lead : Byte) (x : Intake) (r : HeldRecord) : Intake :=
  if (r.eff - frame).toNat ≠ lead.toNat then { x with outOfWindow := satInc x.outOfWindow }
  else if x.list.length < 48 ∧ ∀ y ∈ x.list, ¬(y.origin = r.origin ∧ y.seq = r.seq) then { x with list := insertHeld r x.list }
  else { x with refused := x.refused ++ [r] }

/-- What becomes of records that arrive in this order. -/
def State.intake (records : List HeldRecord) (s : State) : Intake :=
  records.foldl (Intake.take s.timer.frame s.cfg.lead) ⟨s.sched.list, s.sched.outOfWindow, []⟩

/-- The state after records have arrived in this order (R86, R87, R140): own records that found no room get DISCARDED_FULL; with a record
lost that way E_lost moves to the frame of such a record, the current frame + L, in LISTENING and JOINING unless it is later already, and in
JOINING a collection is abandoned. -/
def State.withRecords (records : List HeldRecord) (s : State) : State :=
  let x := s.intake records
  let lost := x.refused ≠ [] ∧ (s.ctl.state = .listening ∨ s.ctl.state = .joining)
  let aborts := x.refused ≠ [] ∧ s.ctl.state = .joining ∧ s.snap.coll = .collecting
  { s with
    sched.list := x.list
    sched.outOfWindow := x.outOfWindow
    sub.receipts := s.sub.receipts ++
      (x.refused.filter fun r => r.origin == s.own).map fun r => ⟨r.seq, r.change.kind, .discardedFull, some r.eff⟩
    snap.eLost := if lost then s.snap.eLost.map fun e => laterFrame e s.frameLead else s.snap.eLost
    snap.coll := if aborts then .waiting else s.snap.coll
    events.wall.snapshotAbandoned := s.events.wall.snapshotAbandoned || decide aborts }

/-! ### The show work of an install, frame by frame (R125) -/

/-- The fields of the first SHOW record among the records due at one frame (R92). -/
def firstShow (due : List HeldRecord) : Option (Byte × Byte) :=
  (due.filterMap fun r =>
    match r.change with
    | .showRec c a => some (c, a)
    | _ => none).head?

/-- The show work of one frame: the first SHOW record due is judged, and the pacing step is taken when none was APPLIED (R116, R118). -/
def showStep (due : List HeldRecord) (k : ShowControl) : ShowControl :=
  match firstShow due with
  | none => pacingStep k
  | some (c, a) =>
    let judged := judgeShow c a k
    if judged.2 = .applied then judged.1 else pacingStep judged.1

/-- The show work of the `n` frames after frame `start`, one after the other, on deferred records (R125). For a `start` after the current
frame, `n` counts round the frame numbers (log 33). -/
def showWalk (deferred : List HeldRecord) (start : Frame) (k : ShowControl) : Nat → ShowControl
  | 0 => k
  | n + 1 => showStep (deferred.filter fun r => r.eff == start + BitVec.ofNat 16 (n + 1)) (showWalk deferred start k n)

/-- The outcome of a deferred record (R92, R96, R125): a SHOW record behind another of its frame is REJECTED_CONFLICT, the first of its
frame is judged on what the frames before have left, and a record of another kind is judged by its fields. `before` stands before it in the
list. -/
def installOutcome (g : Geometry) (deferred : List HeldRecord) (start : Frame) (k : ShowControl) (before : List HeldRecord)
    (r : HeldRecord) : ReceiptOutcome :=
  match r.change with
  | .showRec c a =>
    if (before.any fun x => x.eff == r.eff && x.change.kind == .showRec) = true then .rejectedConflict
    else (judgeShow c a (showWalk deferred start k ((r.eff - start).toNat - 1))).2
  | _ => if changeValid g r.change = true then .applied else .rejectedField

end Sys2Proof.Machine
end

