-- ==== Sys2Proof/Certificates/Slice0/Obligations.lean ====
section
/-! DEFINITION. The statements for the provers, from the rules of spec/. A statement that rests on a choice of the model names the log
entry. -/

section Statements

open Sys2Proof Sys2Proof.Machine

/-! ### The step -/

/-- A step takes the command at the front of the queue and runs it with the queue's rest (log 1); every command answers a next state, and
none touches the queue. -/
def Obligations.StepTakesFrontCommand : Prop :=
  ∀ (c : Instr) (s : State),
    step { s with pending := c :: s.pending } = exec c s ∧ ∃ t, exec c s = .next t ∧ t.pending = s.pending

/-- With nothing waiting a step runs the timer event that is due, and otherwise lets 1/32 µs pass, which moves only running times: the
model's choice (log 2). -/
def Obligations.IdleStepRunsDueEventOrTick : Prop :=
  ∀ s : State, s.pending = [] →
    (∀ c, s.dueEvent = some c → step s = exec c s) ∧
    (s.dueEvent = none → step s = .next
      { s with
        timer.elapsed := s.timer.elapsed + 1
        timer.driveElapsed := if s.timer.driving then s.timer.driveElapsed + 1 else s.timer.driveElapsed
        bus.sendElapsed :=
          if s.bus.sending = true ∨ s.bus.awaiting = .looped then s.bus.sendElapsed + 1 else s.bus.sendElapsed
        svc := s.svc.advance 1 })

/-- When every timer event falls due, in ticks of 1/32 µs (the unit is log 2; P µs is 32 P ticks, 9/8 P is 36 P ticks, P/32 is P ticks), and
that it is not due before: the own timer's expiry (R20); the close and the opening of a slot, and the own opening (R10, R25); the end of the
own message, 2 µs a byte, and the hand-over of a looped one (R1, R18); the end of the own strobe pulse after 4 µs (R22); the end of a
debounce after 20 ms (R163); the power timer at 200 ms (R166, R167); the blink at 250 ms (R173). Which of several events due at one tick is
taken first is the model's choice (log 2). And the opening of a slot (R2, R25): the receiver waits for a start bit. For the slot that is
next this is R25; that a later one may be opened too, passing over those between, is the model's choice (log 27). The own slot of the frame
has had its opening (`ownOpened`) when the window of a station that builds no message opens, or a later one (log 7); nothing else changes.
-/
def Obligations.SlotWindowsAndExpiryOnTime : Prop :=
  (∀ s : State,
     let p := s.timer.period.toNat
     (s.dueFrameEvent = some .ownFrameTimerExpiry ↔
       (match s.ctl.state with
       | .joining | .member | .leaving | .loopback => 32
       | .offline | .listening | .fault => 36) * p ≤ s.timer.elapsed) ∧
     (∀ k : Position, s.dueSlotEvent = some (.slotClose k) ↔ s.timer.openSlot = some k ∧ (k.val + 1) * p ≤ s.timer.elapsed) ∧
     (s.dueSlotEvent = some .ownSlotOpen ↔
       s.timer.openSlot = some s.own ∧ s.timer.ownOpened = false ∧ s.timer.elapsed < (s.own.val + 1) * p) ∧
     (∀ k : Position, s.dueSlotEvent = some (.slotOpen k) ↔
       s.timer.openSlot = none ∧ s.timer.noGuard = false ∧ s.timer.nextSlot = k.val ∧ k.val * p ≤ s.timer.elapsed) ∧
     (∀ c, s.dueSlotEvent = some c → (∃ k, c = .slotClose k ∨ c = .slotOpen k) ∨ c = .ownSlotOpen) ∧
     (∀ c, s.dueFrameEvent = some c → c = .ownFrameTimerExpiry)) ∧
  (∀ s : State,
     let sent := 64 * s.bus.txBuffer.length ≤ s.bus.sendElapsed
     (s.dueBusEvent = some .transmitComplete ↔ s.bus.sending = true ∧ sent) ∧
     (s.dueBusEvent = some .loopedHandover ↔ s.bus.sending = false ∧ s.bus.awaiting = .looped ∧ sent) ∧
     (s.dueBusEvent = some .strobeDriveEnd ↔
       s.timer.driving = true ∧ 4 * 32 ≤ s.timer.driveElapsed ∧ ¬(sent ∧ (s.bus.sending = true ∨ s.bus.awaiting = .looped))) ∧
     (∀ c, s.dueBusEvent = some c → c = .transmitComplete ∨ c = .loopedHandover ∨ c = .strobeDriveEnd)) ∧
  (∀ s : State,
     let held := fun p : PanelInput => ∃ t, (s.svc.input p).timer = some t ∧ 20000 * 32 ≤ t
     let powered := ∃ t, s.svc.powerTimer = some t ∧ 200000 * 32 ≤ t
     let quiet := ∀ p, ¬held p
     (s.dueServiceEvent = some (.debounceExpiry .presence) ↔ held .presence) ∧
     (s.dueServiceEvent = some (.debounceExpiry .latch) ↔ held .latch ∧ ¬held .presence) ∧
     (s.dueServiceEvent = some (.debounceExpiry .button) ↔ held .button ∧ ¬held .presence ∧ ¬held .latch) ∧
     (s.dueServiceEvent = some .powerTimerExpiry ↔ powered ∧ quiet) ∧
     (s.dueServiceEvent = some .ledBlinkToggle ↔ s.svc.led = .blink ∧ 250000 * 32 ≤ s.svc.blinkElapsed ∧ quiet ∧ ¬powered) ∧
     (∀ c, s.dueServiceEvent = some c → (∃ p, c = .debounceExpiry p) ∨ c = .powerTimerExpiry ∨ c = .ledBlinkToggle)) ∧
  (∀ s : State, s.dueEvent = s.dueBusEvent.or (s.dueSlotEvent.or (s.dueFrameEvent.or s.dueServiceEvent))) ∧
  (∀ (k : Position) (s : State), s.timer.noGuard = false → s.timer.nextSlot ≤ k.val → s.timer.openSlot = none →
     ∃ t, exec (.slotOpen k) s = .next t ∧
       t.timer.openSlot = some k ∧ t.timer.nextSlot = k.val + 1 ∧ t.bus.delivered = false ∧
       t.bus.attempt = (if s.ctl.state = .loopback then .off else .waiting) ∧
       t.timer.ownOpened = (if k = s.own then decide (s.ctl.state = .offline ∨ s.ctl.state = .listening ∨ s.ctl.state = .fault)
         else s.timer.ownOpened || decide (s.own < k)) ∧
       t = { s with
         timer.openSlot := t.timer.openSlot, timer.nextSlot := t.timer.nextSlot, timer.ownOpened := t.timer.ownOpened
         bus.attempt := t.bus.attempt, bus.delivered := t.bus.delivered })

/-! ### Resets -/

/-- After each kind of reset: station controller and roster (R61); wall bus interface, frame timer and schedule, and the first frame start,
number 1 (R19, R32, R98, R21). RESET_STATION counts an attempt in progress as a bad message, unless it is the readback of a transmitting
station's own slot (R19, R5; in LOOPBACK there is no attempt, R2). -/
def Obligations.StationAndScheduleAfterReset : Prop :=
  (∀ (pins : ResetPins) (s : State), ∃ t u,
     exec (.pinReset pins) s = .next t ∧ exec .resetStation s = .next u ∧
     (∀ v, v = t ∨ v = u →
       v.ctl.state = .offline ∧ v.ctl.faultReason = .none ∧ v.ctl.joinReason = .none ∧ v.ctl.resyncCause = .none ∧
       v.ctl.countdown = 0 ∧ v.ctl.memberHeard = false ∧ v.ctl.leaveFrame = none ∧
       (∀ p : Position, v.entry p = ⟨.absent, 0, none, none⟩) ∧
       v.sub.receipts = [] ∧ v.bus.sending = false ∧ v.bus.awaiting = .none ∧
       v.events.wall.stateChanged = false ∧ v.events.wall.rosterChanged = false ∧ v.events.wall.resyncStarted = false ∧
       v.events.wall.snapshotAbandoned = false ∧ v.events.wall.commandRefused = false ∧ v.events.wall.writeIgnored = false ∧
       v.events.fault = false) ∧
     t.straps.pos = pins.pos ∧ t.straps.columns = pins.colPins.val + 1 ∧ t.straps.rowCount = pins.rowPins.val + 1 ∧
     u.straps = s.straps) ∧
  (∀ (pins : ResetPins) (s : State), ∃ t u,
     exec (.pinReset pins) s = .next t ∧ exec .resetStation s = .next u ∧
     (∀ v, v = t ∨ v = u →
       v.bus.txBuffer = [] ∧ v.bus.rxBuffer = [] ∧ v.bus.sending = false ∧ v.bus.readback = .none ∧
       v.bus.alternation = .other ∧ v.bus.runCount = 0 ∧ v.timer.frame = 0 ∧ v.timer.elapsed = 0 ∧
       v.timer.noGuard = true ∧ v.timer.driving = false ∧ v.timer.openSlot = none ∧ v.bus.attempt = .off ∧
       v.sched.list = [] ∧ v.sched.dropBound = none ∧
       ∃ w, exec (.wbStrobeEdge 0) v = .next w ∧ w.timer.frame = 1 ∧ w.timer.openSlot = some 0) ∧
     t.bus.badMessages = 0 ∧ t.timer.period = 16667 ∧ t.timer.earlyStrobes = 0 ∧ t.sched.outOfWindow = 0 ∧
     u.bus.badMessages =
       (if s.bus.attempt = .receiving ∧ s.ctl.state ≠ .loopback ∧ s.bus.badMessages ≠ 255 ∧
           ¬(s.timer.openSlot = some s.own ∧ transmits s.ctl.state = true) then s.bus.badMessages + 1
         else s.bus.badMessages) ∧
     u.timer.period = s.cfg.period ∧ u.timer.earlyStrobes = s.timer.earlyStrobes ∧
     u.sched.outOfWindow = s.sched.outOfWindow)

/-- Submission unit, objects, show controller, snapshot unit and compositor after each kind of reset (R79, R114, R128, R148, R162). -/
def Obligations.SharedStateAfterReset : Prop :=
  ∀ (pins : ResetPins) (s : State), ConfigInv s → ∃ t u,
    exec (.pinReset pins) s = .next t ∧ exec .resetStation s = .next u ∧
    ∀ v, v = t ∨ v = u →
      (∀ k : Fin 14, v.sub.stage[k] = 0) ∧ v.sub.palWrite = ⟨0, .red, ⟨0, 0, 0⟩⟩ ∧ v.sub.palRead = ⟨0, .red, ⟨0, 0, 0⟩⟩ ∧
      v.sub.curWrite = ⟨0, 0, Vector.replicate 8 0⟩ ∧ v.sub.curRead = ⟨0, 0, Vector.replicate 8 0⟩ ∧
      v.sub.outbound = [] ∧ v.sub.ownSeq = 0 ∧ v.sub.receipts = [] ∧ v.credits = 16 ∧ v.inFlight = 0 ∧
      v.sub.refused = false ∧ v.sub.refusalReason = .none ∧ v.sub.refusalPath = .none ∧
      (∀ i : Byte, paletteAt v.obj.palette i = ⟨i, i, i⟩) ∧ v.obj.look = ⟨false, ⟨0, 0, 0⟩, ⟨255, 255, 255⟩⟩ ∧
      (∀ r : Fin 32, v.obj.image[r] = Vector.replicate 8 0) ∧ v.obj.curX = 0 ∧ v.obj.curY = 0 ∧
      (∀ i : Fin 8, v.obj.windows[i] = none) ∧ v.obj.background = 0 ∧
      v.sched.list = [] ∧ v.bus.sending = false ∧ v.shows = ⟨.stopped .blank, 0, .null, none, .null, none⟩ ∧
      v.snap.streaming = false ∧ v.snap.streamFrame = 0 ∧ v.snap.nextPart = 0 ∧ v.snap.coll = .idle ∧
      v.snap.collFrame = 0 ∧ v.snap.collSource = 0 ∧ v.snap.nextExpected = 0 ∧ v.snap.eLost = none ∧
      (∀ n : Fin 1184, v.snap.capture[n] = 0 ∧ v.snap.assembly[n] = 0) ∧
      v.comp.tile = tileRect v.straps v.cfg ∧ v.comp.views = [] ∧ v.comp.qualifying = 0 ∧ v.comp.overflow = false ∧
      v.comp.placement = (if v.straps.pos = 0 then some ⟨0, 0, 0, 0, 32, 32⟩ else none) ∧ v.comp.cursorOnTile = false ∧
      v.comp.hidden = true ∧ v.comp.showing = false ∧
      v.events.frame.viewOverflow = false ∧ v.events.frame.cursorTileChanged = false

/-- Service controller and interrupt unit after each kind of reset (R176, R189). -/
def Obligations.ServiceAndInterruptsAfterReset : Prop :=
  ∀ (pins : ResetPins) (s : State), ∃ t u,
    exec (.pinReset pins) s = .next t ∧ exec .resetStation s = .next u ∧
    t.svc.presence = ⟨pins.presence, pins.presence, none⟩ ∧ t.svc.latch = ⟨pins.latch, pins.latch, none⟩ ∧
    t.svc.button = ⟨pins.button, pins.button, none⟩ ∧ t.svc.request = false ∧ t.svc.power = .off ∧
    pwrEn t.svc = false ∧ t.svc.powerTimer = none ∧ t.svc.led = .off ∧ t.svc.follow = false ∧ t.svc.command = .none ∧
    t.svc.outcome = .none ∧ t.svc.pgood = pins.pgood ∧
    t.events = ⟨false, ⟨false, false, false, false, false, false⟩, ⟨false, false, false, false, false, false⟩,
      ⟨false, false, false, false⟩, ⟨false, false, false, false, false⟩⟩ ∧
    t.receiptPending = false ∧ t.irqAsserted = false ∧ t.port.transaction = none ∧
    t.cfg = ⟨1920, 1080, 16667, 3, 4, false⟩ ∧
    t.bus.badMessages = 0 ∧ t.timer.earlyStrobes = 0 ∧ t.sched.outOfWindow = 0 ∧
    u.svc = s.svc ∧ pwrEn u.svc = pwrEn s.svc ∧ u.events.fault = false ∧
    u.events.wall = ⟨false, false, false, false, false, false⟩ ∧ u.events.frame = ⟨false, false, false, false⟩ ∧
    u.events.service = s.events.service ∧ u.events.enables = s.events.enables ∧ u.receiptPending = false ∧
    u.irqAsserted = (s.events.enables.service && s.servicePending) ∧
    u.port.transaction = (s.portWrite (indexOf .command)).port.transaction ∧ u.cfg = s.cfg ∧ u.straps = s.straps ∧
    u.ctl.state = .offline ∧ t.comp.showing = false ∧ u.comp.showing = false

/-! ### The frame timer -/

/-- A frame start from the own timer's expiry (R20, R23). In JOINING, MEMBER or LEAVING (before the leave frame) it drives WB_STROBE, and in
the other states it does not; the end of the pulse releases the line and changes nothing else (R22). An attempt of the second half of the
frame that the frame start finds unfinished is counted as a bad message (R2, R5). Slot 0 is open and slot 1 is next (R23, R25); the receiver
waits for a start bit, but not in LOOPBACK (R2), and no message of this slot has been delivered; and the own slot of the new frame has not
had its opening, unless it is slot 0 of a station that builds no message (R49, log 7). -/
def Obligations.OwnExpiryStartsFrameAndDrives : Prop :=
  (∀ s : State, ∃ t, exec .ownFrameTimerExpiry s = .next t ∧
     t.timer.frame = s.timer.frame + 1 ∧ t.timer.elapsed = 0 ∧ t.timer.noGuard = false ∧ t.timer.period = s.cfg.period ∧
     t.timer.openSlot = some 0 ∧ t.events.frame.frameStarted = true ∧ t.straps = s.straps ∧ t.cfg = s.cfg ∧
     t.port = s.port ∧ t.timer.earlyStrobes = s.timer.earlyStrobes ∧ t.events.enables = s.events.enables ∧
     t.events.service = s.events.service ∧ t.sub.stage = s.sub.stage ∧
     t.timer.nextSlot = 1 ∧ t.bus.attempt = (if t.ctl.state = .loopback then .off else .waiting) ∧ t.bus.delivered = false ∧
     t.timer.ownOpened = decide (s.own = 0 ∧ (t.ctl.state = .offline ∨ t.ctl.state = .listening ∨ t.ctl.state = .fault)) ∧
     (s.timer.openSlot = none → t.bus.badMessages =
       (if s.bus.attempt = .receiving ∧ s.ctl.state ≠ .loopback ∧ s.bus.badMessages ≠ 255 then s.bus.badMessages + 1
         else s.bus.badMessages))) ∧
  ((∀ s : State, s.betweenSlots →
     (s.ctl.state = .joining ∨ s.ctl.state = .member ∨
         (s.ctl.state = .leaving ∧ s.ctl.leaveFrame ≠ some (s.timer.frame + 1)) →
       ∃ t, exec .ownFrameTimerExpiry s = .next t ∧ t.timer.driving = true ∧ t.timer.driveElapsed = 0) ∧
     (s.ctl.state = .offline ∨ s.ctl.state = .listening ∨ s.ctl.state = .fault ∨ s.ctl.state = .loopback →
       s.timer.driving = false → ∃ t, exec .ownFrameTimerExpiry s = .next t ∧ t.timer.driving = false)) ∧
   ∀ s : State, exec .strobeDriveEnd s = .next { s with timer.driving := false })

/-- A rising edge of WB_STROBE (R21, R24): while the own pulse still holds the line when the edge comes (4 µs, R22), and in LOOPBACK,
nothing but the time that passed (the reading is log 17); otherwise outside the guard, or before the first frame start after a reset, a
frame start, which counts an attempt it finds unfinished in the second half of a frame (R2, R5), and inside the guard an early strobe is
counted, with the line released. The frame start of an edge is the one that an own expiry at that moment makes, with all the work of the
blocks (R23), but that the line is not driven: so every statement about the frame start of OWN_FRAME_TIMER_EXPIRY says the same of one by an
edge. That a reading at or past the own expiry point, which R20 rules out, is taken as an edge is the model's choice (log 17). -/
def Obligations.StrobeEdgeByElapsedTime : Prop :=
  ∀ (reading : Ticks) (s : State),
    let d := reading - s.timer.elapsed
    let u : State := { s.advance d with timer.driving := false }
    let holds := s.timer.driving = true ∧ s.timer.driveElapsed + d < 4 * 32
    (holds ∨ (s.ctl.state = .loopback ∧ s.timer.driving = false) → exec (.wbStrobeEdge reading) s = .next (s.advance d)) ∧
    (s.ctl.state ≠ .loopback → ¬holds →
      (s.timer.noGuard = true ∨ 28 * s.timer.period.toNat ≤ max reading s.timer.elapsed →
        ∃ t, exec (.wbStrobeEdge reading) s = .next t ∧ t.timer.frame = s.timer.frame + 1 ∧ t.timer.elapsed = 0 ∧
          t.timer.noGuard = false ∧ t.timer.period = s.cfg.period ∧ t.timer.openSlot = some 0 ∧ t.timer.driving = false ∧
          t.events.frame.frameStarted = true ∧ t.timer.earlyStrobes = s.timer.earlyStrobes ∧
          (∃ x, exec .ownFrameTimerExpiry u = .next x ∧
            t = { x with timer.driving := false, timer.driveElapsed := u.timer.driveElapsed }) ∧
          (s.timer.openSlot = none → t.bus.badMessages =
            (if s.bus.attempt = .receiving ∧ s.ctl.state ≠ .loopback ∧ s.bus.badMessages ≠ 255 then s.bus.badMessages + 1
              else s.bus.badMessages))) ∧
      (s.timer.noGuard = false → max reading s.timer.elapsed < 28 * s.timer.period.toNat →
        exec (.wbStrobeEdge reading) s = .next
          { s.advance d with
            timer.driving := false
            timer.earlyStrobes := if s.timer.earlyStrobes = 255 then 255 else s.timer.earlyStrobes + 1 }))

/-! ### The own-slot message -/

/-- The own-slot message of JOINING and of LEAVING (R10, R11): header from the present state, and no record taken. Its member set holds the
positions whose roster entries are MEMBER, and the own position just when the station is MEMBER or in LOOPBACK. What MEMBER and LOOPBACK
send (R12, R13): the kind by the arbiter's table; up to four head records numbered from the own sequence counter, with the current frame +
L; a PART or IDLE takes no record. In LOOPBACK the message goes on the looped path (R18). -/
def Obligations.OwnSlotMessage : Prop :=
  ((∀ s : State, s.ownSlotReady →
      (s.ctl.state = .joining →
        exec .ownSlotOpen s = .next
          { s with
            bus.txBuffer := messageBytes ⟨s.own, .joining, s.timer.frame, s.memberSet, s.sub.ownSeq, .join s.ctl.joinReason⟩
            bus.sending := true, bus.sendElapsed := 0, bus.awaiting := .pair, bus.alternation := .other
            timer.ownOpened := true }) ∧
      (∀ f, s.ctl.state = .leaving → s.ctl.leaveFrame = some f →
        exec .ownSlotOpen s = .next
          { s with
            bus.txBuffer := messageBytes ⟨s.own, .leaving, s.timer.frame, s.memberSet, s.sub.ownSeq, .leave f⟩
            bus.sending := true, bus.sendElapsed := 0, bus.awaiting := .pair, bus.alternation := .other
            timer.ownOpened := true })) ∧
   (∀ (s : State) (p : Position),
      (inSet s.memberSet p = true ↔
        if p = s.straps.pos then s.ctl.state = .member ∨ s.ctl.state = .loopback else s.roster[p].state = .member))) ∧
  (∀ s : State, s.ownSlotReady → s.ctl.state = .member ∨ s.ctl.state = .loopback →
     ∃ t body, exec .ownSlotOpen s = .next t ∧
       t.bus.txBuffer = messageBytes ⟨s.own, .member, s.timer.frame, s.memberSet, s.sub.ownSeq, body⟩ ∧
       t.bus.sending = decide (s.ctl.state = .member) ∧ t.bus.awaiting = (if s.ctl.state = .member then .pair else .looped) ∧
       (body = .changes ((s.sub.outbound.take 4).map fun r => (r.change, s.frameLead)) ∧ t.bus.alternation = .changes ∧
             t.sub.outbound = ((s.sub.outbound.take 4).mapIdx fun i r =>
               ⟨r.change, .beingSent (s.sub.ownSeq + BitVec.ofNat 8 i) s.frameLead⟩) ++ s.sub.outbound.drop 4 ∧
             t.sub.ownSeq = s.sub.ownSeq + BitVec.ofNat 8 (s.sub.outbound.take 4).length ∧
             s.sub.outbound ≠ [] ∧ (s.snap.streaming = true → s.bus.alternation = .part) ∨
         body = .part s.snap.streamFrame (BitVec.ofNat 8 s.snap.nextPart) 19 ((s.snap.capture.toList.drop (64 * s.snap.nextPart)).take 64) ∧
             t.bus.alternation = .part ∧ t.sub = s.sub ∧
             s.snap.streaming = true ∧ (s.sub.outbound ≠ [] → s.bus.alternation ≠ .part) ∨
         body = .idle ∧ t.bus.alternation = .other ∧ t.sub = s.sub ∧ s.sub.outbound = [] ∧ s.snap.streaming = false) ∧
       t.snap = s.snap ∧ t.ctl = s.ctl ∧ t.roster = s.roster ∧ t.sched = s.sched ∧ t.obj = s.obj ∧ t.shows = s.shows ∧
       t.comp = s.comp ∧ t.svc = s.svc ∧ t.events = s.events ∧ t.timer = { s.timer with ownOpened := true } ∧
       t.sub = { s.sub with outbound := t.sub.outbound, ownSeq := t.sub.ownSeq } ∧
       t.bus = { s.bus with
         txBuffer := t.bus.txBuffer, sending := t.bus.sending, sendElapsed := 0, awaiting := t.bus.awaiting
         alternation := t.bus.alternation })

/-- Four events that move one thing: the last stop bit releases the pair (R1); a write to a register that takes none, or to no register,
changes nothing but the transaction it stands in (R178); the end of a transaction leaves the port IDLE in every state (R177); a blink
changes the LED line and nothing else (R173). That LED_BLINK_TOGGLE outside BLINK, where its timer does not run, changes nothing is the
model's choice (log 3). -/
def Obligations.BusAndPortEventsOfOneField : Prop :=
  (∀ s : State, exec .transmitComplete s = .next { s with bus.sending := false }) ∧
  (∀ (index : BitVec 7) (value : Byte) (s : State),
     ∃ t n, exec (.ignoredWrite index value) s = .next t ∧ t = { s with port := t.port } ∧
       t.port.transaction = some ⟨false, index, n + 1⟩ ∧ t.port.out = []) ∧
  (∀ s : State, exec .spiTransactionEnd s = .next
     { s with port := { selected := false, transaction := none, shift := [], data := [], out := [] } }) ∧
  (∀ s : State,
     (s.svc.led = .blink → ∃ t, exec .ledBlinkToggle s = .next t ∧ ledLine t.svc = !ledLine s.svc ∧
       t = { s with svc.blinkHigh := !s.svc.blinkHigh, svc.blinkElapsed := 0 }) ∧
     (s.svc.led ≠ .blink → exec .ledBlinkToggle s = .next s))

/-! ### Readback -/

/-- A successful readback (R14, R15), in each of the three states that send: a CHANGES message that is on the pair when LEAVE or a resync is
taken completes in LEAVING or JOINING (R45, R49). A message that took no record: SUCCESS, run count 0, a PART counted as sent (R132). A
CHANGES message of one record (R89, R87): the record leaves the queue and enters the pending list, or, with no room there, gets
DISCARDED_FULL; in JOINING E_lost then moves and a collection is abandoned (R87, R140). A CHANGES message of several records moves them all,
in body order: into the list while there is room for them, and each to DISCARDED_FULL once the list is full. And for any sent records and
any list, record by record (`State.withRecords`). -/
def Obligations.ReadbackSuccessMovesRecords : Prop :=
  (∀ (m : Message) (s : State), m.wellFormed → m.sender = s.own → s.bus.txBuffer = messageBytes m →
     s.bus.awaiting = .pair → s.bus.attempt = .waiting → (∀ r ∈ s.sub.outbound, r.status = .waiting) →
     exec (.readback (messageBytes m) true) s = .next
       { s with
         bus.rxBuffer := messageBytes m, bus.attempt := .ended, bus.awaiting := .none, bus.readback := .success, bus.runCount := 0
         snap.nextPart := if s.bus.alternation = .part ∧ s.snap.streaming = true ∧ s.snap.nextPart < 18 then s.snap.nextPart + 1
           else s.snap.nextPart
         snap.streaming := s.snap.streaming && !(s.bus.alternation == .part && decide (18 ≤ s.snap.nextPart)) }) ∧
  (∀ (m : Message) (s : State) (c : Change) (seq : SeqNum) (rest : List OutRecord),
     m.wellFormed → m.sender = s.own → s.bus.txBuffer = messageBytes m → s.bus.awaiting = .pair → s.bus.attempt = .waiting →
     s.bus.alternation = .changes →
     s.ctl.state = .joining ∨ s.ctl.state = .member ∨ s.ctl.state = .leaving →
     s.sub.outbound = ⟨c, .beingSent seq (plusLead s.timer.frame s.cfg.lead)⟩ :: rest → (∀ r ∈ rest, r.status = .waiting) →
     let r : HeldRecord := ⟨c, plusLead s.timer.frame s.cfg.lead, s.own, seq⟩
     let room := s.sched.list.length < 48 ∧ ∀ x ∈ s.sched.list, ¬(x.origin = s.own ∧ x.seq = seq)
     (room → exec (.readback (messageBytes m) true) s = .next
       { s with
         bus.rxBuffer := messageBytes m, bus.attempt := .ended, bus.awaiting := .none, bus.readback := .success, bus.runCount := 0
         sub.outbound := rest
         sched.list := insertHeld r s.sched.list }) ∧
     (¬room → s.ctl.state ≠ .joining → exec (.readback (messageBytes m) true) s = .next
       { s with
         bus.rxBuffer := messageBytes m, bus.attempt := .ended, bus.awaiting := .none, bus.readback := .success, bus.runCount := 0
         sub.outbound := rest
         sub.receipts := s.sub.receipts ++ [⟨seq, c.kind, .discardedFull, some r.eff⟩] }) ∧
     (∀ e, ¬room → s.ctl.state = .joining → s.snap.eLost = some e → exec (.readback (messageBytes m) true) s = .next
       { s with
         bus.rxBuffer := messageBytes m, bus.attempt := .ended, bus.awaiting := .none, bus.readback := .success, bus.runCount := 0
         sub.outbound := rest
         sub.receipts := s.sub.receipts ++ [⟨seq, c.kind, .discardedFull, some r.eff⟩]
         snap.eLost := some (if frameAfter r.eff e = true then r.eff else e)
         snap.coll := if s.snap.coll = .collecting then .waiting else s.snap.coll
         events.wall.snapshotAbandoned := s.events.wall.snapshotAbandoned || s.snap.coll == .collecting })) ∧
  (∀ (m : Message) (s : State) (sent : List (Change × SeqNum)) (rest : List OutRecord),
     m.wellFormed → m.sender = s.own → s.bus.txBuffer = messageBytes m → s.bus.awaiting = .pair → s.bus.attempt = .waiting →
     s.bus.alternation = .changes →
     s.ctl.state = .joining ∨ s.ctl.state = .member ∨ s.ctl.state = .leaving →
     s.sub.outbound = (sent.map fun x => ⟨x.1, .beingSent x.2 (plusLead s.timer.frame s.cfg.lead)⟩) ++ rest →
     (∀ r ∈ rest, r.status = .waiting) →
     let moved : List HeldRecord := sent.map fun x => ⟨x.1, plusLead s.timer.frame s.cfg.lead, s.own, x.2⟩
     (s.sched.list.length + sent.length ≤ 48 → (sent.map fun x => x.2).Nodup →
       (∀ x ∈ s.sched.list, ∀ y ∈ moved, ¬(x.origin = y.origin ∧ x.seq = y.seq)) →
       exec (.readback (messageBytes m) true) s = .next
         { s with
           bus.rxBuffer := messageBytes m, bus.attempt := .ended, bus.awaiting := .none, bus.readback := .success, bus.runCount := 0
           sub.outbound := rest
           sched.list := moved.foldl (fun l r => insertHeld r l) s.sched.list }) ∧
     (∀ k ≤ sent.length, s.sched.list.length + k = 48 → s.ctl.state ≠ .joining → ((sent.take k).map fun x => x.2).Nodup →
       (∀ x ∈ s.sched.list, ∀ y ∈ moved.take k, ¬(x.origin = y.origin ∧ x.seq = y.seq)) →
       exec (.readback (messageBytes m) true) s = .next
         { s with
           bus.rxBuffer := messageBytes m, bus.attempt := .ended, bus.awaiting := .none, bus.readback := .success, bus.runCount := 0
           sub.outbound := rest
           sched.list := (moved.take k).foldl (fun l r => insertHeld r l) s.sched.list
           sub.receipts := s.sub.receipts ++
             (moved.drop k).map fun r => ⟨r.seq, r.change.kind, .discardedFull, some (plusLead s.timer.frame s.cfg.lead)⟩ })) ∧
  (∀ (m : Message) (s : State), m.wellFormed → m.sender = s.own → s.bus.txBuffer = messageBytes m → s.bus.awaiting = .pair →
     s.bus.attempt = .waiting → s.bus.alternation ≠ .part →
     s.ctl.state = .joining ∨ s.ctl.state = .member ∨ s.ctl.state = .leaving → (s.ctl.state = .joining → s.snap.eLost.isSome = true) →
     exec (.readback (messageBytes m) true) s = .next (State.withRecords
       (s.sub.outbound.filterMap fun r =>
         match r.status with
         | .waiting => none
         | .beingSent seq eff => some ⟨r.change, eff, s.own, seq⟩)
       { s with
         bus.rxBuffer := messageBytes m, bus.attempt := .ended, bus.awaiting := .none, bus.readback := .success, bus.runCount := 0
         sub.outbound := s.sub.outbound.filter fun r => r.status == .waiting }))

/-- A failed readback (R14, R16, R45, R46, R53): the own slot closes with no outcome, or the attempt ends invalid, or the bytes read back
differ from the bytes sent or fail a check of R3. BEING_SENT records leave with UNCERTAIN receipts; at a count of 1 a MEMBER resyncs with
cause READBACK, a JOINING or LEAVING station goes on; at 2 the station is in FAULT with COLLISION, and the wall side is cleared: after the
UNCERTAIN receipts of the BEING_SENT records come those of the own in-flight records, and then NOT_SENT for the WAITING records (R75, R76).
After the close of the own slot the receiver is off, or, after slot 15, waits for the start bit of the second half (R2). -/
def Obligations.ReadbackFailureByRunCount : Prop :=
  ∀ s : State, s.bus.awaiting = .pair → transmits s.ctl.state = true →
    let kept : State :=
      { s with
        sub.outbound := s.sub.outbound.filter fun r => r.status == .waiting
        sub.receipts := s.sub.receipts ++ s.sub.outbound.filterMap fun r =>
          match r.status with
          | .waiting => none
          | .beingSent seq eff => some ⟨seq, r.change.kind, .uncertain, some eff⟩ }
    let failed := fun t : State =>
      t.bus.readback = .failure ∧ t.bus.awaiting = .none ∧
      t.bus.badMessages = s.bus.badMessages ∧ t.obj = s.obj ∧ t.svc = s.svc ∧ t.cfg = s.cfg ∧
      (s.bus.runCount = 0 → s.ctl.state = .member →
        t.ctl = { s.ctl with state := .joining, joinReason := .resync, resyncCause := .readback } ∧ t.bus.runCount = 1 ∧
        t.events.wall.stateChanged = true ∧ t.events.wall.resyncStarted = true ∧
        t.snap.eLost = some (plusLead s.timer.frame s.cfg.lead) ∧ t.snap.coll = .waiting ∧ t.snap.streaming = false ∧
        t.timer.frame = s.timer.frame ∧ t.sched = s.sched ∧ t.shows = { s.shows with deferred := none } ∧
        t.comp.showing = false ∧ t.roster = s.roster) ∧
      (s.bus.runCount = 0 → s.ctl.state = .joining ∨ s.ctl.state = .leaving →
        t.ctl = s.ctl ∧ t.bus.runCount = 1 ∧ t.sched = s.sched ∧ t.snap = s.snap ∧ t.shows = s.shows ∧
        t.roster = s.roster ∧ t.events = s.events) ∧
      (s.bus.runCount = 0 → t.sub = kept.sub) ∧
      (1 ≤ s.bus.runCount →
        t.sub = kept.subCleared ∧ t.ctl.state = .fault ∧ t.ctl.faultReason = .collision ∧ t.bus.runCount = 0 ∧ t.events.fault = true ∧
        t.events.wall.stateChanged = true ∧ t.sched.list = [] ∧ t.sub.outbound = [] ∧ t.bus.sending = false ∧
        t.timer.driving = false ∧ t.roster = clearedRoster ∧ t.shows = { s.shows with deferred := some .stopBlank })
    (s.timer.openSlot = some s.own →
      ∃ t, exec (.slotClose s.own) s = .next t ∧ t.timer = { s.timer with openSlot := none, ownOpened := true, driving := t.timer.driving } ∧
        t.bus.attempt = (if s.own.val = 15 then .waiting else .off) ∧ t.bus.delivered = false ∧ t.bus.sending = false ∧ failed t) ∧
    ∀ (bytes : List Byte) (stopBit : Bool), s.bus.attempt = .waiting →
      let run := takeRun [] bytes stopBit
      (run.2 = .invalid ∨ (run.2 = .complete ∧ (run.1 ≠ s.bus.txBuffer ∨ parseMessage s.own run.1 = none))) →
      ∃ t, exec (.readback bytes stopBit) s = .next t ∧ t.timer.openSlot = s.timer.openSlot ∧ t.bus.rxBuffer = run.1 ∧ failed t

/-- The looped path (R18): at the hand-over the message is taken as a successful readback, each of its records entering the pending list
while there is room and getting DISCARDED_FULL once the list is full (R87, R89), or, for any sent records and any list, record by record
(`State.withRecords`); and in LOOPBACK a peer's message and the close of a peer's slot bring nothing. That the close of the own slot hands
over a message that has not been handed over is the model's choice (log 23). -/
def Obligations.LoopedPathTakesOwnMessage : Prop :=
  ∀ s : State, s.ctl.state = .loopback →
    (s.bus.awaiting = .looped → s.snap.streaming = false → (∀ r ∈ s.sub.outbound, r.status = .waiting) →
      exec .loopedHandover s = .next
        { s with bus.awaiting := .none, bus.sending := false, bus.readback := .success, bus.runCount := 0 }) ∧
    (∀ c seq rest, s.bus.awaiting = .looped → s.bus.alternation = .changes →
      s.sub.outbound = ⟨c, .beingSent seq (plusLead s.timer.frame s.cfg.lead)⟩ :: rest → (∀ r ∈ rest, r.status = .waiting) →
      s.sched.list.length < 48 → (∀ x ∈ s.sched.list, ¬(x.origin = s.own ∧ x.seq = seq)) →
      exec .loopedHandover s = .next
        { s with
          bus.awaiting := .none, bus.sending := false, bus.readback := .success, bus.runCount := 0
          sub.outbound := rest
          sched.list := insertHeld ⟨c, plusLead s.timer.frame s.cfg.lead, s.own, seq⟩ s.sched.list }) ∧
    (s.bus.awaiting = .looped → s.snap.streaming = false →
      exec .loopedHandover s = .next (State.withRecords
        (s.sub.outbound.filterMap fun r =>
          match r.status with
          | .waiting => none
          | .beingSent seq eff => some ⟨r.change, eff, s.own, seq⟩)
        { s with
          bus.awaiting := .none, bus.sending := false, bus.readback := .success, bus.runCount := 0
          sub.outbound := s.sub.outbound.filter fun r => r.status == .waiting })) ∧
    (∀ (sent : List (Change × SeqNum)) (rest : List OutRecord) (k : Nat), s.bus.awaiting = .looped → s.bus.alternation = .changes →
      s.sub.outbound = (sent.map fun x => ⟨x.1, .beingSent x.2 (plusLead s.timer.frame s.cfg.lead)⟩) ++ rest →
      (∀ r ∈ rest, r.status = .waiting) →
      let moved : List HeldRecord := sent.map fun x => ⟨x.1, plusLead s.timer.frame s.cfg.lead, s.own, x.2⟩
      s.sched.list.length + k ≤ 48 → (k < sent.length → s.sched.list.length + k = 48) →
      ((sent.take k).map fun x => x.2).Nodup →
      (∀ x ∈ s.sched.list, ∀ y ∈ moved.take k, ¬(x.origin = y.origin ∧ x.seq = y.seq)) →
      exec .loopedHandover s = .next
        { s with
          bus.awaiting := .none, bus.sending := false, bus.readback := .success, bus.runCount := 0
          sub.outbound := rest
          sched.list := (moved.take k).foldl (fun l r => insertHeld r l) s.sched.list
          sub.receipts := s.sub.receipts ++
            (moved.drop k).map fun r => ⟨r.seq, r.change.kind, .discardedFull, some r.eff⟩ }) ∧
    (∀ bytes stopBit, exec (.messageReceived bytes stopBit) s = .next s) ∧
    (s.timer.openSlot = some s.own → s.bus.awaiting = .looped →
      ∃ t, exec .loopedHandover s = .next t ∧ exec (.slotClose s.own) s = .next
        { t with timer.openSlot := none, timer.ownOpened := true, bus.attempt := .off, bus.delivered := false }) ∧
    (∀ k, k ≠ s.own → s.timer.openSlot = some k →
      exec (.slotClose k) s = .next
        { s with timer.openSlot := none, bus.attempt := .off, bus.delivered := false })

/-! ### Reception and the roster -/

/-- What a message's bytes spell is the message (R3, Tables 13-1 to 13-3): decoding a well-formed message's bytes in the sender's slot gives
it back with every field, the attempt that carries them ends complete with the last of them (R2), and a message of n body bytes is n + 10
bytes long and never longer than 82 (R1, R13). The layout that a partner sees, byte by byte: header and body (Tables 13-1 and 13-2, the
state and join reason codes by Table 13-6), the records with their kind codes (Table 13-3), and the check field, low byte first: the CRC-16
with polynomial 1021h from FFFFh, each byte high bit first (R3). -/
def Obligations.MessageBytesDecodeToMessage : Prop :=
  (∀ m : Message, m.wellFormed →
     parseMessage m.sender (messageBytes m) = some m ∧ takeRun [] (messageBytes m) true = (messageBytes m, .complete)) ∧
  (∀ m : Message, m.wellFormed → (messageBytes m).length = m.body.bytes.length + 10 ∧ (messageBytes m).length ≤ 82) ∧
  (∀ m : Message,
     let half := fun h : Half => [h.extractLsb' 0 8, h.extractLsb' 8 8]
     messageBytes m = messageCore m ++ half (crc16 (messageCore m)) ∧
     messageCore m =
       [BitVec.ofNat 8 (m.sender.val + 16 * (stationCode m.state).toNat),
         (match m.body with | .join _ => 1 | .leave _ => 2 | .changes _ => 3 | .part _ _ _ _ => 4 | .idle => 5)] ++
         half m.frame ++ half m.members ++ [m.mark, BitVec.ofNat 8 m.body.bytes.length] ++ m.body.bytes ∧
     m.body.bytes =
       (match m.body with
       | .join reason => [joinCode reason]
       | .leave f => half f
       | .changes records => records.flatMap fun r => recordBytes r.1 r.2
       | .part f index count data => half f ++ [index, count] ++ data
       | .idle => [])) ∧
  (∀ (c : Change) (eff : Frame),
     let half := fun h : Half => [h.extractLsb' 0 8, h.extractLsb' 8 8]
     recordBytes c eff = [kindCode c.kind] ++ half eff ++
       (match c with
       | .palette i colour => [i, colour.r, colour.g, colour.b]
       | .cursorMove x y => half x ++ half y
       | .cursorLook v a b => [v, a.r, a.g, a.b, b.r, b.g, b.b]
       | .cursorRow row codes => row :: codes.toList
       | .windowAbsent id => [0#4 ++ id]
       | .windowPresent id flag w => [flag ++ id, w.layer ++ w.source] ++ half w.x ++ half w.y ++ half w.width ++ half w.height ++
           half w.panX ++ half w.panY
       | .background i => [i]
       | .showRec command argument => [command, argument])) ∧
  (kindCode .palette = 1 ∧ kindCode .cursorMove = 2 ∧ kindCode .cursorLook = 3 ∧ kindCode .cursorRow = 4 ∧ kindCode .window = 5 ∧
     kindCode .background = 6 ∧ kindCode .showRec = 7) ∧
  (let bitIn := fun (crc : BitVec 16) (bit : Bool) => if (crc.msb != bit) = true then (crc <<< 1) ^^^ 0x1021 else crc <<< 1
   crc16 [] = 0xFFFF ∧
     ∀ (bytes : List Byte) (b : Byte),
       crc16 (bytes ++ [b]) = (List.range 8).foldl (fun crc i => bitIn crc (b.getMsbD i)) (crc16 bytes))

/-- Whatever passes the checks of a slot is a well-formed message of that slot's position (R3, R4, R190), and bytes that end in any other
check field than the CRC-16 of those before it do not pass (check 1 of R3). -/
def Obligations.ValidMessageIsWellFormed : Prop :=
  (∀ (k : Position) (bytes : List Byte) (m : Message), parseMessage k bytes = some m → m.sender = k ∧ m.wellFormed) ∧
  (∀ (k : Position) (core check : List Byte), check.length = 2 → check ≠ halfBytes (crc16 core) →
     parseMessage k (core ++ check) = none)

/-- An attempt that does not give a valid message is counted and has no other effect (R5, R2): in a peer's slot, in the second half of a
frame, or in the own slot of a station that does not send. In OFFLINE and FAULT a valid message is checked and not delivered (R6), in a
peer's slot or in the own slot (R9). In the own slot of a LISTENING station it is a position conflict: FAULT with POSITION_IN_USE (R9, R53),
with the receipts of a cleared wall side (R75, R76). Bytes that come after the attempt has ended are paid no attention (R2). A run that does
not end the attempt leaves it in progress with the bytes collected, and a later run goes on with it: the two do what one run of all the
bytes does, so each statement of a whole message holds of one that comes in pieces. That a command carries a run of bytes is the model's
form (log 6). Where an attempt ends (R2): as invalid at a body length over 72 or at a byte without its stop bit, and complete with the last
byte of the check field; the bytes behind that are not collected. -/
def Obligations.MessagesThatAreNotDelivered : Prop :=
  (∀ (bytes : List Byte) (stopBit : Bool) (s : State), s.ctl.state ≠ .loopback → s.bus.attempt = .waiting →
     (s.timer.openSlot = some s.own → transmits s.ctl.state = false) →
     ((takeRun [] bytes stopBit).2 = .invalid ∨
       ((takeRun [] bytes stopBit).2 = .complete ∧
         ∀ k, s.timer.openSlot = some k → parseMessage k (takeRun [] bytes stopBit).1 = none)) →
     exec (.messageReceived bytes stopBit) s = .next
       { s with
         bus.rxBuffer := (takeRun [] bytes stopBit).1
         bus.attempt := .ended
         bus.badMessages := if s.bus.badMessages = 255 then 255 else s.bus.badMessages + 1 }) ∧
  (∀ (m : Message) (s : State), m.wellFormed → s.timer.openSlot = some m.sender → s.bus.attempt = .waiting →
     s.ctl.state = .offline ∨ s.ctl.state = .fault →
     exec (.messageReceived (messageBytes m) true) s = .next
       { s with bus.rxBuffer := messageBytes m, bus.attempt := .ended }) ∧
  (∀ (m : Message) (s : State), m.wellFormed → m.sender = s.own → s.timer.openSlot = some s.own → s.bus.attempt = .waiting →
     s.ctl.state = .listening →
     ∃ t, exec (.messageReceived (messageBytes m) true) s = .next t ∧
       t.ctl.state = .fault ∧ t.ctl.faultReason = .positionInUse ∧ t.sub = s.subCleared ∧
       t.events.fault = true ∧ t.events.wall.stateChanged = true ∧
       t.roster = clearedRoster ∧ t.sched.list = [] ∧ t.snap.eLost = none ∧ t.ctl.countdown = 0 ∧
       t.shows = { s.shows with deferred := some .stopBlank } ∧ t.obj = s.obj ∧ t.timer.frame = s.timer.frame ∧
       t.sched.outOfWindow = s.sched.outOfWindow ∧ t.svc = s.svc) ∧
  (∀ (bytes : List Byte) (stopBit : Bool) (s : State), s.bus.attempt = .ended ∨ s.bus.attempt = .off →
     exec (.messageReceived bytes stopBit) s = .next s ∧ exec (.readback bytes stopBit) s = .next s) ∧
  (∀ (a b : List Byte) (stopBit : Bool) (s : State), s.bus.attempt = .waiting ∨ s.bus.attempt = .receiving →
     let before := if s.bus.attempt = .receiving then s.bus.rxBuffer else []
     let kept : State := { s with bus.rxBuffer := before ++ a, bus.attempt := .receiving }
     takeRun before a true = (before ++ a, .unfinished) →
     (s.ctl.state ≠ .loopback → (s.timer.openSlot = some s.own → transmits s.ctl.state = false) →
       exec (.messageReceived a true) s = .next kept ∧
       exec (.messageReceived b stopBit) kept = exec (.messageReceived (a ++ b) stopBit) s) ∧
     (s.bus.awaiting = .pair →
       exec (.readback a true) s = .next kept ∧ exec (.readback b stopBit) kept = exec (.readback (a ++ b) stopBit) s)) ∧
  (∀ (bytes : List Byte) (stopBit : Bool),
     let open' : AttemptEnd := if stopBit then .unfinished else .invalid
     (bytes.length < 8 → takeRun [] bytes stopBit = (bytes, open')) ∧
     ∀ n, bytes[7]? = some n →
       (72 < n.toNat → takeRun [] bytes stopBit = (bytes.take 8, .invalid)) ∧
       (n.toNat ≤ 72 → bytes.length < n.toNat + 10 → takeRun [] bytes stopBit = (bytes, open')) ∧
       (n.toNat ≤ 72 → n.toNat + 10 ≤ bytes.length → takeRun [] bytes stopBit = (bytes.take (n.toNat + 10), .complete)))

/-- A JOIN or LEAVE message of a peer (R55, R54, R140): the entry takes the sender state, a change of it raises ROSTER_CHANGED, a collection
whose source leaves MEMBER by it is abandoned, and nothing else changes. -/
def Obligations.JoinAndLeaveMessagesUpdateEntry : Prop :=
  ∀ (m : Message) (s : State), s.mayHear m → delivers s.ctl.state = true →
    ∀ e : Entry,
      ((∃ reason, m.body = .join reason) ∧ e = ⟨.joining, 0, some m.mark, none⟩) ∨
        (∃ f, m.body = .leave f ∧ e = ⟨.leaving, 0, s.roster[m.sender].expected, some f⟩) →
      exec (.messageReceived (messageBytes m) true) s = .next
        { s with
          bus.rxBuffer := messageBytes m, bus.attempt := .ended, bus.delivered := true
          roster := s.roster.set m.sender e
          events.wall.rosterChanged := s.events.wall.rosterChanged || s.roster[m.sender].state != e.state
          snap.coll :=
            if s.roster[m.sender].state = .member ∧ s.snap.collSource = m.sender ∧ s.snap.coll = .collecting then .waiting
            else s.snap.coll
          events.wall.snapshotAbandoned := s.events.wall.snapshotAbandoned ||
            decide (s.roster[m.sender].state = .member ∧ s.snap.collSource = m.sender ∧ s.snap.coll = .collecting) }

/-- An IDLE of a peer that is MEMBER in the roster, with no frame mismatch in MEMBER and JOINING; in LISTENING and LEAVING frame numbers are
not compared (R55, R30, R31). With the expected mark it clears the entry's miss count and does nothing else (R84). With another mark it
shows a gap (R84, R85, R45, R46): in MEMBER a resync with cause GAP, in JOINING and LISTENING E_lost moves, in LEAVING nothing further. A
PART message does what an IDLE with its header does, and outside JOINING nothing else (R84, R135); nor where that leaves the collection
WAITING with an E_lost after the stream frame (R137, R140). And an IDLE of a peer that is not MEMBER in the roster (R55): a JOINING entry,
or in LISTENING and JOINING an ABSENT or LEAVING one, becomes MEMBER with ROSTER_CHANGED, expecting the header mark, or the sequence an
ABSENT or LEAVING entry still holds, and what follows is what a MEMBER entry brings: a gap with a held sequence, a frame mismatch
(MemberMessageSetsFrameNumber), or nothing more. In LEAVING an ABSENT or LEAVING entry keeps its state. In MEMBER the merge rule decides of
one (MergeRuleDecides). -/
def Obligations.SequenceCheckByStationState : Prop :=
  (∀ (m : Message) (s : State), s.mayHear m → m.body = .idle → s.roster[m.sender].state = .member →
     s.roster[m.sender].expected = some m.mark →
     s.ctl.state = .leaving ∨ (s.ctl.state = .listening ∧ s.ctl.memberHeard = true) ∨
       ((s.ctl.state = .member ∨ s.ctl.state = .joining) ∧ (s.reference = some m.sender → m.frame = s.timer.frame)) →
     exec (.messageReceived (messageBytes m) true) s = .next
       { s with
         bus.rxBuffer := messageBytes m, bus.attempt := .ended, bus.delivered := true
         roster := s.roster.set m.sender { s.roster[m.sender] with miss := 0 } }) ∧
  (∀ (m : Message) (s : State), s.mayHear m → m.body = .idle → s.roster[m.sender].state = .member →
     s.roster[m.sender].expected ≠ some m.mark →
     (s.ctl.state = .member ∨ s.ctl.state = .joining → s.reference = some m.sender → m.frame = s.timer.frame) →
     (s.ctl.state = .listening → s.ctl.memberHeard = true) → delivers s.ctl.state = true →
     ∃ t, exec (.messageReceived (messageBytes m) true) s = .next t ∧
       t.roster = s.roster.set m.sender { s.roster[m.sender] with miss := 0, expected := some m.mark } ∧
       t.timer.frame = s.timer.frame ∧ t.sched = s.sched ∧ t.sub = s.sub ∧ t.obj = s.obj ∧ t.svc = s.svc ∧
       (s.ctl.state = .member →
         t.ctl = { s.ctl with state := .joining, joinReason := .resync, resyncCause := .gap } ∧
         t.snap.eLost = some (plusLead s.timer.frame s.cfg.lead) ∧ t.snap.coll = .waiting ∧ t.snap.streaming = false ∧
         t.events.wall.stateChanged = true ∧ t.events.wall.resyncStarted = true ∧ t.comp.showing = false ∧
         t.shows = { s.shows with deferred := none }) ∧
       (s.ctl.state = .joining →
         t.ctl = s.ctl ∧ t.snap = { s.snap with
           coll := if s.snap.coll = .collecting then .waiting else s.snap.coll, eLost := some (plusLead s.timer.frame s.cfg.lead) } ∧
         t.events = { s.events with
           wall.snapshotAbandoned := s.events.wall.snapshotAbandoned || s.snap.coll == .collecting }) ∧
       (s.ctl.state = .listening →
         t.ctl = s.ctl ∧ t.snap = { s.snap with eLost := some (plusLead s.timer.frame s.cfg.lead) } ∧ t.events = s.events) ∧
       (s.ctl.state = .leaving → t.ctl = s.ctl ∧ t.snap = s.snap ∧ t.events = s.events ∧ t.shows = s.shows)) ∧
  (∀ (m : Message) (f : Frame) (i n : Byte) (data : List Byte) (s : State), s.mayHear m → m.body = .part f i n data →
     delivers s.ctl.state = true →
     ∃ t, exec (.messageReceived (messageBytes { m with body := .idle }) true) s = .next t ∧
       (t.snap.coll = .idle ∨ (t.snap.coll = .waiting ∧ ∃ e, t.snap.eLost = some e ∧ frameAfter e f = true) →
         exec (.messageReceived (messageBytes m) true) s = .next { t with bus.rxBuffer := messageBytes m })) ∧
  (∀ (m : Message) (s : State), s.mayHear m → m.body = .idle →
     (s.roster[m.sender].state = .joining ∧ delivers s.ctl.state = true) ∨
       ((s.roster[m.sender].state = .absent ∨ s.roster[m.sender].state = .leaving) ∧
         (s.ctl.state = .listening ∨ s.ctl.state = .joining)) →
     let expected := if s.roster[m.sender].state = .joining then m.mark else s.roster[m.sender].expected.getD m.mark
     let u : State :=
       { s with roster := s.roster.set m.sender ⟨.member, 0, some expected, none⟩, events.wall.rosterChanged := true }
     exec (.messageReceived (messageBytes m) true) s = exec (.messageReceived (messageBytes m) true) u ∧
       (expected = m.mark → (s.ctl.state = .listening → s.ctl.memberHeard = true) →
         (s.ctl.state = .member ∨ s.ctl.state = .joining → u.reference = some m.sender → m.frame = s.timer.frame) →
         exec (.messageReceived (messageBytes m) true) s = .next
           { u with bus.rxBuffer := messageBytes m, bus.attempt := .ended, bus.delivered := true })) ∧
  (∀ (m : Message) (s : State), s.mayHear m → m.body = .idle → s.ctl.state = .leaving →
     s.roster[m.sender].state = .absent ∨ s.roster[m.sender].state = .leaving →
     exec (.messageReceived (messageBytes m) true) s = .next
       { s with
         bus.rxBuffer := messageBytes m, bus.attempt := .ended, bus.delivered := true
         roster := s.roster.set m.sender { s.roster[m.sender] with miss := 0 } })

/-- A CHANGES message of one record from a MEMBER peer in step, heard in MEMBER, LEAVING, JOINING or a LISTENING that has heard a member
(R83, R86, R87): the expected sequence advances by one; the record enters the list in window and with room, is counted out of window (R88),
and is lost without room. A message of several records that all find room takes each in body order under the next number. In LISTENING and
JOINING a record lost for lack of room moves E_lost to the later of itself and the record's frame, and in JOINING a collection is abandoned
(R87, R140). For any records and any list, record by record: `State.withRecords`. With another mark the message shows a gap (R84, R85): the
expected sequence goes past its records, they arrive like any others, and the gap does what it does in SequenceCheckByStationState. And
whatever the sender's entry, mark and frame number: a CHANGES message does what an IDLE with its header does (SequenceCheckByStationState,
MemberMessageSetsFrameNumber, MergeRuleDecides), and then its records arrive when the sender's entry is MEMBER (R7, R83). -/
def Obligations.RecordAcceptance : Prop :=
  (∀ (m : Message) (c : Change) (eff : Frame) (s : State), s.mayHear m → m.body = .changes [(c, eff)] →
     s.roster[m.sender].state = .member → s.roster[m.sender].expected = some m.mark →
     s.ctl.state = .member ∨ s.ctl.state = .leaving ∨ s.ctl.state = .joining ∨ (s.ctl.state = .listening ∧ s.ctl.memberHeard = true) →
     (s.ctl.state = .member ∨ s.ctl.state = .joining → s.reference = some m.sender → m.frame = s.timer.frame) →
     let r : HeldRecord := ⟨c, eff, m.sender, m.mark⟩
     let inWin := (eff - s.timer.frame).toNat = s.cfg.lead.toNat
     let room := s.sched.list.length < 48 ∧ ∀ x ∈ s.sched.list, ¬(x.origin = m.sender ∧ x.seq = m.mark)
     ∃ t, exec (.messageReceived (messageBytes m) true) s = .next t ∧
       t.roster = s.roster.set m.sender { s.roster[m.sender] with miss := 0, expected := some (m.mark + 1) } ∧
       (inWin → room → t.sched = { s.sched with list := insertHeld r s.sched.list }) ∧
       (inWin → ¬room → t.sched = s.sched) ∧
       (¬inWin → t.sched = { s.sched with
         outOfWindow := if s.sched.outOfWindow = 255 then 255 else s.sched.outOfWindow + 1 }) ∧
       t.ctl = s.ctl ∧ t.timer = s.timer ∧ t.sub = s.sub ∧ t.obj = s.obj ∧ t.shows = s.shows ∧ t.comp = s.comp ∧ t.svc = s.svc ∧
       (¬inWin ∨ room ∨ s.ctl.state = .member ∨ s.ctl.state = .leaving → t.snap = s.snap ∧ t.events = s.events)) ∧
  (∀ (m : Message) (rs : List (Change × Frame)) (s : State), s.mayHear m → m.body = .changes rs →
     s.roster[m.sender].state = .member → s.roster[m.sender].expected = some m.mark →
     s.ctl.state = .member ∨ s.ctl.state = .leaving ∨ s.ctl.state = .joining ∨ (s.ctl.state = .listening ∧ s.ctl.memberHeard = true) →
     (s.ctl.state = .member ∨ s.ctl.state = .joining → s.reference = some m.sender → m.frame = s.timer.frame) →
     (∀ r ∈ rs, (r.2 - s.timer.frame).toNat = s.cfg.lead.toNat) → s.sched.list.length + rs.length ≤ 48 →
     (∀ x ∈ s.sched.list, x.origin = m.sender → ∀ i < rs.length, x.seq ≠ m.mark + BitVec.ofNat 8 i) →
     let taken : List HeldRecord := rs.mapIdx fun i r => ⟨r.1, r.2, m.sender, m.mark + BitVec.ofNat 8 i⟩
     exec (.messageReceived (messageBytes m) true) s = .next
       { s with
         bus.rxBuffer := messageBytes m, bus.attempt := .ended, bus.delivered := true
         roster := s.roster.set m.sender
           { s.roster[m.sender] with miss := 0, expected := some (m.mark + BitVec.ofNat 8 rs.length) }
         sched.list := taken.foldl (fun l r => insertHeld r l) s.sched.list }) ∧
  (∀ (m : Message) (c : Change) (eff e : Frame) (s : State), s.mayHear m → m.body = .changes [(c, eff)] →
     s.roster[m.sender].state = .member → s.roster[m.sender].expected = some m.mark → s.snap.eLost = some e →
     s.ctl.state = .joining ∨ (s.ctl.state = .listening ∧ s.ctl.memberHeard = true) →
     (s.ctl.state = .joining → s.reference = some m.sender → m.frame = s.timer.frame) →
     (eff - s.timer.frame).toNat = s.cfg.lead.toNat →
     48 ≤ s.sched.list.length ∨ (∃ x ∈ s.sched.list, x.origin = m.sender ∧ x.seq = m.mark) →
     let aborts := s.ctl.state = .joining ∧ s.snap.coll = .collecting
     exec (.messageReceived (messageBytes m) true) s = .next
       { s with
         bus.rxBuffer := messageBytes m, bus.attempt := .ended, bus.delivered := true
         roster := s.roster.set m.sender { s.roster[m.sender] with miss := 0, expected := some (m.mark + 1) }
         snap.coll := if aborts then .waiting else s.snap.coll
         snap.eLost := some (if frameAfter eff e = true then eff else e)
         events.wall.snapshotAbandoned := s.events.wall.snapshotAbandoned || decide aborts }) ∧
  (∀ (m : Message) (rs : List (Change × Frame)) (s : State), s.mayHear m → m.body = .changes rs →
     s.roster[m.sender].state = .member → s.roster[m.sender].expected = some m.mark →
     s.ctl.state = .member ∨ s.ctl.state = .leaving ∨ s.ctl.state = .joining ∨ (s.ctl.state = .listening ∧ s.ctl.memberHeard = true) →
     (s.ctl.state = .member ∨ s.ctl.state = .joining → s.reference = some m.sender → m.frame = s.timer.frame) →
     (s.ctl.state = .joining ∨ s.ctl.state = .listening → s.snap.eLost.isSome = true) →
     exec (.messageReceived (messageBytes m) true) s = .next (State.withRecords
       (rs.mapIdx fun i r => ⟨r.1, r.2, m.sender, m.mark + BitVec.ofNat 8 i⟩)
       { s with
         bus.rxBuffer := messageBytes m, bus.attempt := .ended, bus.delivered := true
         roster := s.roster.set m.sender
           { s.roster[m.sender] with miss := 0, expected := some (m.mark + BitVec.ofNat 8 rs.length) } })) ∧
  (∀ (m : Message) (rs : List (Change × Frame)) (s : State), s.mayHear m → m.body = .changes rs →
     s.roster[m.sender].state = .member → s.roster[m.sender].expected ≠ some m.mark →
     (s.ctl.state = .member ∨ s.ctl.state = .joining → s.reference = some m.sender → m.frame = s.timer.frame) →
     (s.ctl.state = .listening → s.ctl.memberHeard = true) → delivers s.ctl.state = true →
     let x := s.intake (rs.mapIdx fun i r => ⟨r.1, r.2, m.sender, m.mark + BitVec.ofNat 8 i⟩)
     ∃ t, exec (.messageReceived (messageBytes m) true) s = .next t ∧
       t.roster = s.roster.set m.sender
         { s.roster[m.sender] with miss := 0, expected := some (m.mark + BitVec.ofNat 8 rs.length) } ∧
       t.sched = { s.sched with list := x.list, outOfWindow := x.outOfWindow } ∧
       t.timer.frame = s.timer.frame ∧ t.sub = s.sub ∧ t.obj = s.obj ∧ t.svc = s.svc ∧
       (s.ctl.state = .member →
         t.ctl = { s.ctl with state := .joining, joinReason := .resync, resyncCause := .gap } ∧
         t.snap.eLost = some (plusLead s.timer.frame s.cfg.lead) ∧ t.snap.coll = .waiting ∧ t.snap.streaming = false ∧
         t.events.wall.stateChanged = true ∧ t.events.wall.resyncStarted = true ∧ t.comp.showing = false ∧
         t.shows = { s.shows with deferred := none }) ∧
       (s.ctl.state = .joining →
         t.ctl = s.ctl ∧ t.snap = { s.snap with
           coll := if s.snap.coll = .collecting then .waiting else s.snap.coll, eLost := some (plusLead s.timer.frame s.cfg.lead) } ∧
         t.events = { s.events with
           wall.snapshotAbandoned := s.events.wall.snapshotAbandoned || s.snap.coll == .collecting }) ∧
       (s.ctl.state = .listening →
         t.ctl = s.ctl ∧ t.snap = { s.snap with eLost := some (plusLead s.timer.frame s.cfg.lead) } ∧ t.events = s.events) ∧
       (s.ctl.state = .leaving → t.ctl = s.ctl ∧ t.snap = s.snap ∧ t.events = s.events ∧ t.shows = s.shows)) ∧
  (∀ (m : Message) (rs : List (Change × Frame)) (s : State), s.mayHear m → m.body = .changes rs → delivers s.ctl.state = true →
     (s.ctl.state = .joining ∨ (s.ctl.state = .listening ∧ s.ctl.memberHeard = true) → s.snap.eLost.isSome = true) →
     ∃ t, exec (.messageReceived (messageBytes { m with body := .idle }) true) s = .next t ∧
       exec (.messageReceived (messageBytes m) true) s = .next
         (if t.roster[m.sender].state = .member then
           State.withRecords (rs.mapIdx fun i r => ⟨r.1, r.2, m.sender, m.mark + BitVec.ofNat 8 i⟩)
             { t with
               bus.rxBuffer := messageBytes m
               roster := t.roster.set m.sender
                 { t.roster[m.sender] with expected := some (m.mark + BitVec.ofNat 8 rs.length) } }
         else { t with bus.rxBuffer := messageBytes m }))

/-- Frame numbers are compared modulo 65536 (R26; Introduction 1.5.2). List order (R80): in a list whose frames lie within half the frame
count of one another, a new record takes its place by effective frame, then by origin, behind the records that were there before it, and the
records around it keep their order. -/
def Obligations.FrameOrderAndListOrder : Prop :=
  ((∀ a b : Frame, frameAfter a b = true ↔ 1 ≤ (a.toNat + 65536 - b.toNat) % 65536 ∧ (a.toNat + 65536 - b.toNat) % 65536 ≤ 32767) ∧
   (∀ a : Frame, frameAfter a a = false) ∧ ∀ a b : Frame, frameAfter a b = true → frameAfter b a = false) ∧
  (∀ (base : Frame) (r : HeldRecord) (l : List HeldRecord),
     let place := fun x : HeldRecord => 16 * (x.eff - base).toNat + x.origin.val
     (∀ x ∈ r :: l, (x.eff - base).toNat ≤ 32767) → (l.Pairwise fun a b => place a ≤ place b) →
     (insertHeld r l).Pairwise (fun a b => place a ≤ place b) ∧
       ∃ before after, l = before ++ after ∧ insertHeld r l = before ++ r :: after ∧
         (∀ x ∈ before, place x ≤ place r) ∧ (∀ x ∈ after, place r < place x))

/-- A frame number mismatch with the reference station, shown by an IDLE (R30, R46): a MEMBER adopts the number, clears its pending list and
resyncs with cause FRAME. The first valid MEMBER message of a listening (R28, R40), here an IDLE: its sender, whatever its entry, is entered
as MEMBER, its frame number adopted, and E_lost set. A mismatch in JOINING restarts the joining with cause FRAME and abandons a collection
(R31). Whether the message also shows a sequence gap or not makes no difference but for the expected sequence, which becomes the mark (R84):
the gap is handled as in JOINING, after the adoption and the clear, and the resync cause stays FRAME (R47, R85). -/
def Obligations.MemberMessageSetsFrameNumber : Prop :=
  (∀ (m : Message) (s : State), s.mayHear m → m.body = .idle → s.ctl.state = .member → s.roster[m.sender].state = .member →
     s.reference = some m.sender → m.frame ≠ s.timer.frame →
     ∃ t, exec (.messageReceived (messageBytes m) true) s = .next t ∧
       t.roster = s.roster.set m.sender { s.roster[m.sender] with miss := 0, expected := some m.mark } ∧
       t.timer = { s.timer with frame := m.frame } ∧ t.sched.list = [] ∧
       t.sub = { s.sub with
         receipts := s.sub.receipts ++ (s.sched.list.filter fun r => r.origin == s.own).map fun r =>
           ⟨r.seq, r.change.kind, .uncertain, some r.eff⟩ } ∧
       t.ctl = { s.ctl with state := .joining, joinReason := .resync, resyncCause := .frame } ∧
       t.snap.eLost = some (plusLead m.frame s.cfg.lead) ∧ t.snap.coll = .waiting ∧ t.snap.streaming = false ∧
       t.events.wall.stateChanged = true ∧ t.events.wall.resyncStarted = true ∧
       t.events.frame = s.events.frame ∧ t.obj = s.obj ∧ t.svc = s.svc ∧ t.comp.showing = false) ∧
  (∀ (m : Message) (s : State), s.mayHear m → m.body = .idle → s.ctl.state = .listening → s.ctl.memberHeard = false →
     exec (.messageReceived (messageBytes m) true) s = .next
       { s with
         bus.rxBuffer := messageBytes m, bus.attempt := .ended, bus.delivered := true
         roster := s.roster.set m.sender
           { (if s.roster[m.sender].state = .member then s.roster[m.sender] else absentEntry) with
             state := .member, miss := 0, expected := some m.mark }
         events.wall.rosterChanged := s.events.wall.rosterChanged || s.roster[m.sender].state != .member
         timer.frame := m.frame
         ctl.memberHeard := true
         snap.eLost := some (plusLead m.frame s.cfg.lead) }) ∧
  (∀ (m : Message) (s : State), s.mayHear m → m.body = .idle → s.ctl.state = .joining → s.roster[m.sender].state = .member →
     s.reference = some m.sender → m.frame ≠ s.timer.frame →
     exec (.messageReceived (messageBytes m) true) s = .next
       { s with
         bus.rxBuffer := messageBytes m, bus.attempt := .ended, bus.delivered := true
         roster := s.roster.set m.sender { s.roster[m.sender] with miss := 0, expected := some m.mark }
         timer.frame := m.frame
         sched.list := []
         sub.receipts := s.sub.receipts ++ (s.sched.list.filter fun r => r.origin == s.own).map fun r =>
           ⟨r.seq, r.change.kind, .uncertain, some r.eff⟩
         snap.coll := if s.snap.coll = .collecting then .waiting else s.snap.coll
         snap.eLost := some (plusLead m.frame s.cfg.lead)
         ctl.joinReason := .resync
         ctl.resyncCause := .frame
         events.wall.resyncStarted := true
         events.wall.snapshotAbandoned := s.events.wall.snapshotAbandoned || s.snap.coll == .collecting })

/-- The merge rule on an IDLE of a station that the roster holds as ABSENT or LEAVING (R56, R57, R29, R46): a returning station, the other
wall, or the own wall. A returning station in sequence whose frame number differs makes a resync with cause FRAME when it is now the
reference (R30). A returning station out of sequence makes a resync with cause GAP; that the cause stays GAP when its frame number then
restarts the joining (R31) is the model's choice (log 11), and so is that the entry of a LEAVING station loses its leave frame (log 13). -/
def Obligations.MergeRuleDecides : Prop :=
  ∀ (m : Message) (ref : Position) (s : State), s.mayHear m → m.body = .idle → s.ctl.state = .member →
    s.roster[m.sender].state = .absent ∨ s.roster[m.sender].state = .leaving → s.reference = some ref →
    let returns := inSet m.members s.own = true
    let inSequence := s.roster[m.sender].expected = some m.mark
    let entered := s.roster.set m.sender ⟨.member, 0, some m.mark, none⟩
    let resyncs := fun (cause : ResyncCause) (f : Frame) (t : State) =>
      t.ctl = { s.ctl with state := .joining, joinReason := .resync, resyncCause := cause } ∧ t.roster = entered ∧
        t.timer = { s.timer with frame := f } ∧ t.snap.eLost = some (plusLead f s.cfg.lead) ∧ t.snap.coll = .waiting ∧
        t.events.wall.rosterChanged = true ∧ t.events.wall.stateChanged = true ∧ t.events.wall.resyncStarted = true
    let listKept := fun t : State => t.sched = s.sched ∧ t.sub = s.sub
    let listCleared := fun t : State =>
      t.sched = { s.sched with list := [] } ∧ t.sub = { s.sub with
        receipts := s.sub.receipts ++ (s.sched.list.filter fun r => r.origin == s.own).map fun r =>
          ⟨r.seq, r.change.kind, .uncertain, some r.eff⟩ }
    ∃ t, exec (.messageReceived (messageBytes m) true) s = .next t ∧ t.obj = s.obj ∧ t.svc = s.svc ∧
      (returns → inSequence → m.frame = s.timer.frame ∨ ref < m.sender →
        t.ctl = s.ctl ∧ t.roster = entered ∧ t.timer = s.timer ∧ t.snap = s.snap ∧ listKept t ∧
        t.events = { s.events with wall.rosterChanged := true }) ∧
      (returns → inSequence → m.frame ≠ s.timer.frame → m.sender < ref → resyncs .frame m.frame t ∧ listCleared t) ∧
      (returns → ¬inSequence →
        m.frame = s.timer.frame ∨ (∃ p, p ≠ s.own ∧ p < m.sender ∧ s.roster[p].state = .member) →
        resyncs .gap s.timer.frame t ∧ listKept t) ∧
      (returns → ¬inSequence → m.frame ≠ s.timer.frame →
        (∀ p, p ≠ s.own → p < m.sender → s.roster[p].state ≠ .member) → resyncs .gap m.frame t ∧ listCleared t) ∧
      ∀ low, ¬returns → inSet m.members low = true → (∀ p, p < low → inSet m.members p = false) →
        (low < ref ∨ (low = ref ∧ m.sender < s.own) → resyncs .merge m.frame t ∧ listCleared t) ∧
        (¬(low < ref ∨ (low = ref ∧ m.sender < s.own)) →
          t.ctl = s.ctl ∧ t.timer = s.timer ∧ t.snap = s.snap ∧ listKept t ∧ t.events = s.events ∧
          t.roster = s.roster.set m.sender { s.roster[m.sender] with miss := 0 })

/-- The close of a slot (R8, R58, R2, R5, R140). A peer's slot: without a delivered message the miss count rises, and at S an entry becomes
ABSENT, which abandons a collection from that peer when the entry was MEMBER; with one, or in a state that delivers nothing, the roster
stays. An attempt still unfinished is counted as a bad message. In the own slot of a station that does not send, an unfinished attempt is
counted and nothing else follows; nor does anything follow at the close of the own slot of a station that sends, when its outcome is known
(when it is not: ReadbackFailureByRunCount). After the close of slots 0 to 14 the receiver is off until the next slot opens; after slot 15
it waits for the start bit of the second half, but not in LOOPBACK (R2). -/
def Obligations.SlotCloseAgesEntry : Prop :=
  (∀ (k : Position) (s : State), k ≠ s.own → s.timer.openSlot = some k →
     let miss := min 15 (s.roster[k].miss + 1)
     let aborts := s.roster[k].state = .member ∧ s.snap.collSource = k ∧ s.snap.coll = .collecting
     ∃ t, exec (.slotClose k) s = .next t ∧ t.timer = { s.timer with openSlot := none } ∧
       t.bus = { s.bus with badMessages := t.bus.badMessages, attempt := t.bus.attempt, delivered := false } ∧
       t.bus.attempt = (if k.val = 15 ∧ s.ctl.state ≠ .loopback then .waiting else .off) ∧
       t.bus.badMessages = (if s.bus.attempt = .receiving ∧ s.ctl.state ≠ .loopback ∧ s.bus.badMessages ≠ 255
         then s.bus.badMessages + 1 else s.bus.badMessages) ∧
       t.ctl = s.ctl ∧ t.sub = s.sub ∧ t.sched = s.sched ∧ t.obj = s.obj ∧ t.shows = s.shows ∧
       t.comp = s.comp ∧ t.svc = s.svc ∧
       (s.bus.delivered = true ∨ delivers s.ctl.state = false → t.roster = s.roster ∧ t.snap = s.snap ∧ t.events = s.events) ∧
       (s.bus.delivered = false → delivers s.ctl.state = true →
         (s.cfg.silence.toNat ≤ miss → s.roster[k].state ≠ .absent →
           t.roster = s.roster.set k ⟨.absent, miss, s.roster[k].expected, none⟩ ∧
           t.snap = { s.snap with coll := if aborts then .waiting else s.snap.coll } ∧
           t.events = { s.events with
             wall.rosterChanged := true
             wall.snapshotAbandoned := s.events.wall.snapshotAbandoned || decide aborts }) ∧
         (miss < s.cfg.silence.toNat ∨ s.roster[k].state = .absent →
           t.roster = s.roster.set k { s.roster[k] with miss := miss } ∧ t.snap = s.snap ∧ t.events = s.events))) ∧
  (∀ s : State, s.timer.openSlot = some s.own → s.bus.awaiting = .none →
     let counts := s.bus.attempt = .receiving ∧ transmits s.ctl.state = false ∧ s.ctl.state ≠ .loopback ∧ s.bus.badMessages ≠ 255
     exec (.slotClose s.own) s = .next
       { s with
         bus.badMessages := if counts then s.bus.badMessages + 1 else s.bus.badMessages
         bus.attempt := if s.own.val = 15 ∧ s.ctl.state ≠ .loopback then .waiting else .off
         bus.delivered := false
         bus.sending := false
         timer.openSlot := none
         timer.ownOpened := true })

/-! ### Snapshot -/

/-- A PART message in JOINING (R137, R138, R139): part 0 of the reference starts a collection, the expected part goes on, with 64 bytes or
32 for part 18, another part of the source abandons it and is judged as a part 0, and other senders are ignored while one is collected. The
message is in step, so only the snapshot unit acts; the part 18 that completes the collection is followed by the install
(InstallByItsChecks). -/
def Obligations.PartMessageWhileJoining : Prop :=
  ∀ (m : Message) (f : Frame) (i n : Byte) (data : List Byte) (s : State), s.mayHear m → m.body = .part f i n data →
    s.ctl.state = .joining → s.roster[m.sender].state = .member → s.roster[m.sender].expected = some m.mark →
    (s.reference = some m.sender → m.frame = s.timer.frame) →
    let part0 := s.reference = some m.sender ∧ i = 0 ∧ n = 19 ∧ data.length = 64 ∧ ∀ e, s.snap.eLost = some e → frameAfter e f = false
    let next := s.snap.nextExpected
    let goesOn := f = s.snap.collFrame ∧ n = 19 ∧ i.toNat = next ∧ data.length = if next < 18 then 64 else 32
    let starts := fun t : State =>
      t.snap = { s.snap with
        coll := .collecting, assembly := t.snap.assembly, collFrame := f, collSource := m.sender, nextExpected := 1 } ∧
      ∀ j : Fin 1184, t.snap.assembly[j] = if j.val < 64 then data.getD j.val 0 else s.snap.assembly[j]
    ∃ t, exec (.messageReceived (messageBytes m) true) s = .next t ∧
      (s.snap.coll = .waiting → part0 → starts t ∧ t.events = s.events) ∧
      (s.snap.coll = .waiting → ¬part0 → t.snap = s.snap ∧ t.events = s.events) ∧
      (s.snap.coll = .collecting → m.sender ≠ s.snap.collSource → t.snap = s.snap ∧ t.events = s.events) ∧
      (s.snap.coll = .collecting → m.sender = s.snap.collSource → goesOn → next < 18 →
        t.snap = { s.snap with assembly := t.snap.assembly, nextExpected := next + 1 } ∧
        (∀ j : Fin 1184, t.snap.assembly[j] =
          if 64 * next ≤ j.val ∧ j.val < 64 * next + 64 then data.getD (j.val - 64 * next) 0 else s.snap.assembly[j]) ∧
        t.events = s.events) ∧
      (s.snap.coll = .collecting → m.sender = s.snap.collSource → ¬goesOn →
        t.events = { s.events with wall.snapshotAbandoned := true } ∧
        (part0 → starts t) ∧ (¬part0 → t.snap = { s.snap with coll := .waiting })) ∧
      (¬(s.snap.coll = .collecting ∧ m.sender = s.snap.collSource ∧ goesOn ∧ 18 ≤ next) →
        t.ctl = s.ctl ∧ t.sched = s.sched ∧ t.sub = s.sub ∧ t.obj = s.obj ∧ t.shows = s.shows ∧ t.comp = s.comp)

/-- The install (R142 to R146, R125, R126, R96). The delivery of part 18 that continues the collection writes its 32 bytes and runs the
install (R138, R142). By the geometry check of seven fields (R143) and the content check (R144): FAULT with GEOMETRY and nothing written,
with the receipts of a cleared wall side (R53, R75, R76); an abandoned collection; or MEMBER with the objects of the image as the deferred
records in list order change them. The show state is that of the image after the show work of every frame after the stream frame and not
after the current one, one frame after the other: the first SHOW record due there is judged, and the pacing step is taken when none was
APPLIED (R125, R92). The receipts are, in list order, UNCERTAIN for own records not after the stream frame, and then for each own deferred
record its outcome under its own frame: a SHOW record behind another of its frame is REJECTED_CONFLICT (R92), the first is judged on what
the frames before have left (R96). The deferred SHOW records stand in frame order, as the list keeps them (R80). What an image holds (R145,
R192, Tables 13-4 and 13-5). For a stream frame after the current frame, of which R125 and R146 say nothing, the frames counted are (current
frame - stream frame) mod 65536: the model's choice (log 33). -/
def Obligations.InstallByItsChecks : Prop :=
  (∀ (m : Message) (data : List Byte) (s : State), s.mayHear m → m.body = .part s.snap.collFrame 18 19 data → data.length = 32 →
     s.ctl.state = .joining → s.roster[m.sender].state = .member → s.roster[m.sender].expected = some m.mark →
     (s.reference = some m.sender → m.frame = s.timer.frame) →
     s.snap.coll = .collecting → s.snap.collSource = m.sender → s.snap.nextExpected = 18 →
     ∃ w : State,
       w = { s with
         bus.rxBuffer := messageBytes m, bus.attempt := .ended
         roster := s.roster.set m.sender { s.roster[m.sender] with miss := 0 }
         snap.assembly := w.snap.assembly } ∧
       (∀ j : Fin 1184, w.snap.assembly[j] = if 1152 ≤ j.val then data.getD (j.val - 1152) 0 else s.snap.assembly[j]) ∧
       exec (.messageReceived (messageBytes m) true) s = .next { w.install with bus.delivered := true }) ∧
  (∀ (p : Straps) (c : Configuration) (g : Geometry) (im : Image),
     let at' := fun n => imageByte im n
     let half := fun n => (at' (n + 1) ++ at' n : Half)
     let cursorOk := fun (v : Half) (extent : Nat) => -31 ≤ v.toInt ∧ v.toInt ≤ (extent : Int) - 1
     (geometryMatches p c im = true ↔
       (at' 0).toNat = p.colPins.val + 1 ∧ (at' 1).toNat = p.rowPins.val + 1 ∧ half 2 = c.tileW ∧ half 4 = c.tileH ∧
         half 6 = c.period ∧ at' 8 = c.lead ∧ at' 9 = c.silence) ∧
     (contentPasses g im = true ↔
       (∀ i : Fin 8, at' (32 + 16 * i.val) = 0 ∨
         (at' (32 + 16 * i.val) = 1 ∧ (at' (33 + 16 * i.val)).toNat ≤ 7 ∧ (at' (34 + 16 * i.val)).toNat ≤ 7 ∧
           windowValid g (imageWindow im i) = true)) ∧
         (at' 14).toNat ≤ 1 ∧ cursorOk (half 15) (g.cols * g.tileW) ∧ cursorOk (half 17) (g.rows * g.tileH) ∧
         ((at' 10 = 0 ∧ (at' 11).toNat ≤ 1 ∧ at' 12 = 0) ∨ (at' 10 = 1 ∧ at' 11 = 0 ∧ at' 12 = 0) ∨
           (at' 10 = 2 ∧ at' 11 = 0 ∧ at' 12 = 0) ∨
           (at' 10 = 3 ∧ 2 ≤ (at' 11).toNat ∧ (at' 11).toNat ≤ 8 ∧ 1 ≤ (at' 12).toNat ∧ (at' 12).toNat ≤ (at' 11).toNat)))) ∧
  (∀ im : Image,
     let at' := fun n => imageByte im n
     let half := fun n => (at' (n + 1) ++ at' n : Half)
     let o := imageObjects im
     (∀ i : Byte, paletteAt o.palette i = ⟨at' (416 + 3 * i.toNat), at' (417 + 3 * i.toNat), at' (418 + 3 * i.toNat)⟩) ∧
     (∀ (r : Fin 32) (j : Fin 8), o.image[r][j] = at' (160 + 8 * r.val + j.val)) ∧
     (∀ i : Fin 8,
       (at' (32 + 16 * i.val) = 1 → o.windows[i] = some
         ⟨(at' (33 + 16 * i.val)).extractLsb' 0 4, (at' (34 + 16 * i.val)).extractLsb' 0 4, half (36 + 16 * i.val),
           half (38 + 16 * i.val), half (40 + 16 * i.val), half (42 + 16 * i.val), half (44 + 16 * i.val), half (46 + 16 * i.val)⟩) ∧
       (at' (32 + 16 * i.val) ≠ 1 → o.windows[i] = none)) ∧
     o.background = at' 13 ∧ o.look = ⟨at' 14 == 1, ⟨at' 19, at' 20, at' 21⟩, ⟨at' 22, at' 23, at' 24⟩⟩ ∧ o.curX = half 15 ∧
     o.curY = half 17 ∧ (at' 10 = 0 → imageShow im = .stopped (if at' 11 = 0 then .keep else .blank)) ∧
     (at' 10 = 1 → imageShow im = .running) ∧ (at' 10 = 2 → imageShow im = .held) ∧
     (at' 10 = 3 → imageShow im = .paced (at' 11).toNat)) ∧
  (∀ s : State, s.ctl.state = .joining → s.snap.coll = .collecting →
     let im := s.snap.assembly
     let deferred := s.sched.list.filter fun r => frameAfter r.eff s.snap.collFrame && !frameAfter r.eff s.timer.frame
     (geometryMatches s.straps s.cfg im = false →
       s.install.ctl.state = .fault ∧ s.install.ctl.faultReason = .geometry ∧ s.install.obj = s.obj ∧
       s.install.shows = { s.shows with deferred := some .stopBlank } ∧ s.install.sched.list = [] ∧ s.install.sub = s.subCleared ∧
       s.install.events.wall.snapshotAbandoned = s.events.wall.snapshotAbandoned) ∧
     (geometryMatches s.straps s.cfg im = true → contentPasses s.geometry im = false →
       s.install = { s with snap.coll := .waiting, events.wall.snapshotAbandoned := true }) ∧
     (geometryMatches s.straps s.cfg im = true → contentPasses s.geometry im = true →
       s.install.ctl = { s.ctl with state := .member } ∧ s.install.snap.coll = .idle ∧ s.install.snap.eLost = none ∧
       s.install.events.wall.stateChanged = true ∧ s.install.events.frame.recordsApplied = s.events.frame.recordsApplied ∧
       s.install.sched.list = s.sched.list.filter (fun r => frameAfter r.eff s.snap.collFrame && frameAfter r.eff s.timer.frame) ∧
       s.install.obj = deferred.foldl
         (fun o r => if changeValid s.geometry r.change = true then writeObject r.change o else o) (imageObjects im) ∧
       s.install.shows.installPos = none ∧ s.install.shows.lastWord = s.shows.lastWord ∧
       s.install.shows.deferred = some (installWord s.install.shows.state) ∧
       s.install.comp.hidden = decide (s.install.shows.state = .stopped .blank) ∧
       s.install.comp.tile = tileRect s.straps s.cfg ∧
       s.install.comp.views = deriveViews (tileRect s.straps s.cfg) s.install.obj.windows ∧
       s.install.comp.placement = placementOf (tileRect s.straps s.cfg) s.install.obj.curX s.install.obj.curY ∧
       ((∀ r ∈ deferred, r.change.kind ≠ .showRec) →
         s.install.shows.state = imageShow im ∧
         ((∀ n, imageShow im ≠ .paced n) → s.install.shows.countdown = (imageByte im 12).toNat) ∧
         (∀ n, imageShow im = .paced n → 1 ≤ s.install.shows.countdown ∧ s.install.shows.countdown ≤ n ∧
           (s.install.shows.countdown + (s.timer.frame - s.snap.collFrame).toNat) % n = (imageByte im 12).toNat % n)) ∧
       ((deferred.filter fun r => r.change.kind == .showRec).Pairwise
           (fun a b => (a.eff - s.snap.collFrame).toNat ≤ (b.eff - s.snap.collFrame).toNat) →
         let k : ShowControl := { s.shows with state := imageShow im, countdown := (imageByte im 12).toNat }
         let left := showWalk deferred s.snap.collFrame k (s.timer.frame - s.snap.collFrame).toNat
         s.install.shows.state = left.state ∧ s.install.shows.countdown = left.countdown ∧
         s.install.sub = { s.sub with
           receipts := s.sub.receipts ++
             ((s.sched.list.filter fun r => r.origin == s.own && !frameAfter r.eff s.snap.collFrame).map fun r =>
               ⟨r.seq, r.change.kind, .uncertain, some r.eff⟩) ++
             (((deferred.mapIdx fun i r => (r, installOutcome s.geometry deferred s.snap.collFrame k (deferred.take i) r)).filter
               fun x => x.1.origin == s.own).map fun x => ⟨x.1.seq, x.1.change.kind, x.2, some x.1.eff⟩) })))

/-- What a capture holds an install gives back (R131, R145, Tables 13-4 and 13-5): the objects and the show state of the capturing station.
-/
def Obligations.CaptureAndInstallAgree : Prop :=
  ∀ s : State, ShowInv s →
    imageObjects s.captureImage = s.obj ∧ imageShow s.captureImage = s.shows.state ∧
    (imageByte s.captureImage 12).toNat = s.shows.countdown ∧ geometryMatches s.straps s.cfg s.captureImage = true

/-- Two works of a frame start. In LISTENING, JOINING, MEMBER and LEAVING (before the own leave frame) a peer's LEAVING entry is removed
when its leave frame is not after the new frame number, with ROSTER_CHANGED (R59); in the other states the roster stays. A station in MEMBER
that is its own reference and holds a JOINING entry starts a stream, captured after the frame's work (R130, R131); otherwise the snapshot
unit stays. -/
def Obligations.LeaversGoAndStreamStarts : Prop :=
  (∀ s : State, s.betweenSlots →
     s.ctl.state = .member ∨ s.ctl.state = .listening ∨ s.ctl.state = .joining ∨
       (s.ctl.state = .leaving ∧ s.ctl.leaveFrame ≠ some (s.timer.frame + 1)) →
     ∃ t, exec .ownFrameTimerExpiry s = .next t ∧
       ((∀ p : Position, p ≠ s.own → leaveFrameCome (s.timer.frame + 1) s.roster[p] = false) →
         t.events.wall.rosterChanged = s.events.wall.rosterChanged) ∧
       (∀ p : Position, p ≠ s.own →
         (∀ f, s.roster[p].state = .leaving → s.roster[p].leaveFrame = some f → frameAfter f (s.timer.frame + 1) = false →
           t.roster[p] = ⟨.absent, s.roster[p].miss, none, none⟩ ∧ t.events.wall.rosterChanged = true) ∧
         (s.roster[p].state ≠ .leaving ∨ s.roster[p].leaveFrame = none ∨
             (∃ f, s.roster[p].leaveFrame = some f ∧ frameAfter f (s.timer.frame + 1) = true) →
           t.roster[p] = s.roster[p]))) ∧
  (∀ s : State, s.betweenSlots → s.ctl.state = .offline ∨ s.ctl.state = .fault ∨ s.ctl.state = .loopback →
     ∃ t, exec .ownFrameTimerExpiry s = .next t ∧ t.roster = s.roster ∧ t.events.wall = s.events.wall) ∧
  (∀ s : State, s.betweenSlots → s.ctl.state = .member →
     ∃ t, exec .ownFrameTimerExpiry s = .next t ∧
       (s.reference = some s.own → (∃ p : Position, p ≠ s.own ∧ s.roster[p].state = .joining) → s.snap.streaming = false →
         t.snap = { s.snap with
           streaming := true, streamFrame := s.timer.frame + 1, nextPart := 0, capture := t.captureImage }) ∧
       (s.reference ≠ some s.own ∨ (∀ p : Position, p ≠ s.own → s.roster[p].state ≠ .joining) ∨ s.snap.streaming = true →
         t.snap = s.snap))

/-! ### Station commands -/

/-- JOIN and LOOPBACK in OFFLINE (R36, R37, R33, R100, R115, R122, R153). With straps that pass: LISTENING with the countdown at L + 1, or
LOOPBACK as a wall of one with default objects and show state, STOP_BLANK deferred, and the view list and cursor placement of the defaults.
With straps that fail: FAULT with STRAP. -/
def Obligations.JoinOrLoopbackInOffline : Prop :=
  (∀ s : State, s.ctl.state = .offline →
     let cols := s.straps.colPins.val + 1
     let rows := s.straps.rowPins.val + 1
     (cols * rows ≤ 16 ∧ s.straps.pos.val < cols * rows →
       exec .join s = .next
         { s.portWrite 0x28 with
           ctl := { s.ctl with
             state := .listening, countdown := s.cfg.lead.toNat + 1, memberHeard := false, faultReason := .none
             joinReason := .none, resyncCause := .none }
           roster := clearedRoster
           events.wall.stateChanged := true
           bus := busOnState .listening s.bus
           timer.driving := false
           snap := { s.snap with streaming := false, coll := .idle, eLost := none }
           comp.showing := false }) ∧
     (16 < cols * rows ∨ cols * rows ≤ s.straps.pos.val →
       ∃ t, exec .join s = .next t ∧ t.ctl.state = .fault ∧ t.ctl.faultReason = .strap ∧ t.sub = s.subCleared ∧
         t.events.fault = true ∧
         t.events.wall.stateChanged = true ∧ t.events.wall.commandRefused = s.events.wall.commandRefused ∧ t.obj = s.obj ∧
         t.shows = { s.shows with deferred := some .stopBlank } ∧ t.straps = s.straps ∧ t.cfg = s.cfg ∧ t.svc = s.svc)) ∧
  (∀ s : State, s.ctl.state = .offline →
     let cols := s.straps.colPins.val + 1
     let rows := s.straps.rowPins.val + 1
     (cols * rows ≤ 16 ∧ s.straps.pos.val < cols * rows →
       ∃ t, exec .loopback s = .next t ∧
         t.ctl = { s.ctl with state := .loopback, faultReason := .none, joinReason := .none, resyncCause := .none } ∧
         t.obj = defaultObjects ∧ t.shows = { s.shows with state := .stopped .blank, countdown := 0, deferred := some .stopBlank } ∧
         (∀ p : Position, (t.entry p).state = if p = s.own then .member else .absent) ∧ t.reference = some s.own ∧
         t.comp.tile = tileRect s.straps s.cfg ∧ t.comp.views = [] ∧ t.comp.qualifying = 0 ∧ t.comp.overflow = false ∧
         t.comp.hidden = true ∧ t.comp.cursorOnTile = false ∧ t.comp.placement = placementOf (tileRect s.straps s.cfg) 0 0 ∧
         t.events.wall.stateChanged = true ∧ t.events.wall.commandRefused = s.events.wall.commandRefused ∧
         t.straps = s.straps ∧ t.cfg = s.cfg ∧ t.svc = s.svc ∧ t.sched = s.sched ∧ t.sub = s.sub ∧
         t.timer.frame = s.timer.frame) ∧
     (16 < cols * rows ∨ cols * rows ≤ s.straps.pos.val →
       ∃ t, exec .loopback s = .next t ∧ t.ctl.state = .fault ∧ t.ctl.faultReason = .strap ∧ t.sub = s.subCleared ∧
         t.events.fault = true ∧ t.obj = s.obj))

/-- Entry to OFFLINE by a command. LEAVE in LISTENING or JOINING, and UNLOOP (R34, R48, R38, R74, R75, R76, R123): in-flight records get
UNCERTAIN, then outbound records NOT_SENT in queue order, a BEING_SENT one under its own number and a WAITING one under the next, and
nothing of the wall side is left. The own message is cut off (R17): the pair is released, the readback ends without a result and is not
counted, and the last readback result and the alternation flag are kept. That the readback ends so, too, when the last byte has left and its
outcome is open is log 10. CLEAR_FAULT in FAULT (R39): OFFLINE, and the fault reason NONE; with the wall side already clear no receipt is
issued. -/
def Obligations.EntryToOfflineByCommand : Prop :=
  (∀ (c : Instr) (s : State),
     (c = .leave ∧ (s.ctl.state = .listening ∨ s.ctl.state = .joining)) ∨ (c = .unloop ∧ s.ctl.state = .loopback) →
     ∃ t, exec c s = .next t ∧ t.ctl.state = .offline ∧ t.events.wall.stateChanged = true ∧
       t.sched.list = [] ∧ (∀ p : Position, t.entry p = ⟨.absent, 0, none, none⟩) ∧
       t.ctl.countdown = 0 ∧ t.ctl.memberHeard = false ∧ t.ctl.leaveFrame = none ∧ t.snap.coll = .idle ∧
       t.snap.streaming = false ∧ t.snap.eLost = none ∧ t.bus.runCount = 0 ∧ t.bus.sending = false ∧ t.bus.awaiting = .none ∧
       t.comp.showing = false ∧ t.events.wall.snapshotAbandoned = s.events.wall.snapshotAbandoned ∧
       t.obj = s.obj ∧ t.shows = { s.shows with deferred := some .stopBlank } ∧ t.credits = s.credits ∧
       t.ctl.faultReason = s.ctl.faultReason ∧ t.ctl.joinReason = s.ctl.joinReason ∧
       t.ctl.resyncCause = s.ctl.resyncCause ∧
       t.bus = { s.bus with
         sending := false, awaiting := .none, runCount := 0
         attempt := if s.bus.awaiting = .pair then .ended else s.bus.attempt } ∧
       t.sub = s.subCleared ∧
       t.cfg = s.cfg ∧ t.straps = s.straps ∧ t.svc = s.svc ∧ t.timer.frame = s.timer.frame) ∧
  (∀ s : State, s.ctl.state = .fault → s.sched.list = [] → s.sub.outbound = [] →
     ∃ t, exec .clearFault s = .next t ∧ t.ctl.state = .offline ∧ t.ctl.faultReason = .none ∧ t.sub = s.sub ∧
       t.sched = s.sched ∧ t.roster = clearedRoster ∧ t.obj = s.obj ∧ t.events.wall.stateChanged = true ∧
       t.shows = { s.shows with deferred := some .stopBlank } ∧ t.svc = s.svc ∧ t.cfg = s.cfg)

/-- LEAVE in MEMBER (R49): LEAVING, with the leave frame L frames after the first LEAVE message; a stream stops, and nothing else moves. At
the leave frame (R51, R52) the station goes to OFFLINE, applies nothing and sends the deferred word; own in-flight records get UNCERTAIN and
then outbound ones NOT_SENT (R34, R75, R76). -/
def Obligations.LeavingFixesAndReachesLeaveFrame : Prop :=
  (∀ s : State, s.ctl.state = .member →
     exec .leave s = .next
       { s.portWrite 0x28 with
         ctl := { s.ctl with
           state := .leaving, requestedLeave := false
           leaveFrame := some (if s.timer.ownOpened then s.timer.frame + 1 + s.cfg.lead.setWidth 16
             else s.timer.frame + s.cfg.lead.setWidth 16) }
         events.wall.stateChanged := true
         snap := { s.snap with streaming := false, coll := .idle, eLost := none } }) ∧
  (∀ s : State, s.betweenSlots → s.ctl.state = .leaving → s.ctl.leaveFrame = some (s.timer.frame + 1) →
     ∃ t, exec .ownFrameTimerExpiry s = .next t ∧ t.ctl.state = .offline ∧ t.obj = s.obj ∧ t.sched.list = [] ∧
       t.sub = s.subCleared ∧ t.roster = clearedRoster ∧ t.timer.driving = false ∧ t.comp.showing = false ∧
       t.events.frame.recordsApplied = s.events.frame.recordsApplied ∧ t.shows.lastWord = s.shows.deferred.getD .null ∧
       t.shows.deferred = some .stopBlank ∧
       t.svc = (if s.ctl.requestedLeave = true ∧ s.svc.follow = true then { s.svc with led := .on, follow := false } else s.svc))

/-- A station command in a state that does not accept it, and a COMMAND byte that names none, change nothing and raise COMMAND_REFUSED (R35,
R181). The byte of each command (R181, Table 13-6); every other byte names none. Each data byte of a transaction is one command, whatever
bytes came before it. -/
def Obligations.CommandBytesAndRefusals : Prop :=
  (∀ (c : Instr) (s : State),
     ((c = .join ∨ c = .loopback) ∧ s.ctl.state ≠ .offline) ∨ (c = .unloop ∧ s.ctl.state ≠ .loopback) ∨
       (c = .clearFault ∧ s.ctl.state ≠ .fault) ∨
       (c = .leave ∧ s.ctl.state ≠ .listening ∧ s.ctl.state ≠ .joining ∧ s.ctl.state ≠ .member) ∨
       (∃ value, c = .unknownCommand value) →
     exec c s = .next { s.portWrite 0x28 with events.wall.commandRefused := true }) ∧
  (∀ before : List Byte,
     writeCommand 0x28 before 1 = some .join ∧ writeCommand 0x28 before 2 = some .leave ∧
     writeCommand 0x28 before 3 = some .loopback ∧ writeCommand 0x28 before 4 = some .unloop ∧
     writeCommand 0x28 before 5 = some .clearFault ∧ writeCommand 0x28 before 6 = some .submit ∧
     writeCommand 0x28 before 0x5A = some .resetStation ∧
     ∀ v : Byte, v = 0 ∨ (7 ≤ v.toNat ∧ v ≠ 0x5A) → writeCommand 0x28 before v = some (.unknownCommand v))

/-- The listening's end (R40, R41): the countdown falls at each frame start and at 0 gives JOINING with reason NEW when a member was heard,
and otherwise a founding with default objects and show state. The LEAVING entries whose leave frame has come go at the same frame start
(LeaversGoAndStreamStarts). -/
def Obligations.ListeningCountsDownAndEnds : Prop :=
  ∀ s : State, s.betweenSlots → s.ctl.state = .listening →
    ∃ t, exec .ownFrameTimerExpiry s = .next t ∧ t.ctl.countdown = s.ctl.countdown - 1 ∧
      t.shows.lastWord = s.shows.deferred.getD .null ∧
      (2 ≤ s.ctl.countdown → t.ctl.state = .listening ∧ t.obj = s.obj ∧
        t.events.wall = { s.events.wall with rosterChanged := t.events.wall.rosterChanged }) ∧
      (s.ctl.countdown = 1 → s.ctl.memberHeard = true →
        t.ctl.state = .joining ∧ t.ctl.joinReason = .new ∧ t.ctl.memberHeard = true ∧ t.snap.coll = .waiting ∧
        t.snap.eLost.isSome = s.snap.eLost.isSome ∧ t.obj = s.obj ∧ t.events.wall.stateChanged = true) ∧
      (s.ctl.countdown = 1 → s.ctl.memberHeard = false →
        t.ctl.state = .member ∧ t.obj = defaultObjects ∧ t.shows.state = .stopped .blank ∧ t.shows.deferred = some .stopBlank ∧
        t.sched.list = [] ∧ t.snap.eLost = none ∧ t.timer.frame = s.timer.frame + 1 ∧
        t.entry s.own = ⟨.member, 0, none, none⟩ ∧ t.events.wall.stateChanged = true)

/-! ### Schedule, objects and show -/

/-- Apply at a frame start in MEMBER (R90 to R93, R101, R108, R118, R119, R121). One object record due: it leaves the list, is judged
against the canvas, and gives an own station its receipt. Nothing due: no object and no receipt moves. Two SHOW records due: the first in
list order is judged, the second is REJECTED_CONFLICT. In each case the show controller then takes its pacing step, unless a SHOW record was
applied, and sends its word. And for any list, in MEMBER, LOOPBACK and LEAVING before the leave frame: the due records are taken in list
order, the first SHOW record is judged and every later one is REJECTED_CONFLICT (R92), and an APPLIED WINDOW record makes the view list, an
APPLIED CURSOR_MOVE or CURSOR_LOOK record the cursor placement and its flag, be recomputed from the objects the apply left, with their
events; otherwise they stay (R108, R152, R153, R158). Windows are hidden by the show state that a change of it leaves (R127, R155). -/
def Obligations.FrameStartAppliesDueRecords : Prop :=
  (∀ (r : HeldRecord) (s : State), s.betweenSlots → s.ctl.state = .member →
     s.sched.list.filter (fun x => x.eff == s.timer.frame + 1) = [r] → (∀ c a, r.change ≠ .showRec c a) →
     ∃ t, exec .ownFrameTimerExpiry s = .next t ∧
       t.sched.list = s.sched.list.filter (fun x => x.eff != s.timer.frame + 1) ∧
       t.events.frame.recordsApplied = true ∧ t.events.frame.frameStarted = true ∧
       t.obj = (if changeValid s.geometry r.change = true then writeObject r.change s.obj else s.obj) ∧
       t.sub.receipts = s.sub.receipts ++
         (if r.origin = s.own then
           [⟨r.seq, r.change.kind, if changeValid s.geometry r.change = true then .applied else .rejectedField, some r.eff⟩]
         else []) ∧
       t.sub.outbound = s.sub.outbound ∧ t.sub.stage = s.sub.stage ∧ t.sched.outOfWindow = s.sched.outOfWindow ∧
       t.shows = sendWord (pacingStep { s.shows with transition := .null })) ∧
  (∀ s : State, s.betweenSlots → s.ctl.state = .member → (∀ x ∈ s.sched.list, x.eff ≠ s.timer.frame + 1) →
     ∃ t, exec .ownFrameTimerExpiry s = .next t ∧ t.obj = s.obj ∧ t.sched = s.sched ∧ t.sub = s.sub ∧
       t.events.frame.recordsApplied = s.events.frame.recordsApplied ∧
       t.shows = sendWord (pacingStep { s.shows with transition := .null }) ∧
       t.comp.views = s.comp.views ∧ t.comp.placement = s.comp.placement ∧ t.comp.hidden = s.comp.hidden ∧
       (t.comp.showing = true ↔ s.comp.showing = true ∨ s.svc.power = .on)) ∧
  (∀ (a b : HeldRecord) (ca aa cb ab : Byte) (s : State), s.betweenSlots → s.ctl.state = .member →
     s.sched.list.filter (fun x => x.eff == s.timer.frame + 1) = [a, b] → a.change = .showRec ca aa → b.change = .showRec cb ab →
     a.origin = s.own → b.origin = s.own →
     let judged := judgeShow ca aa { s.shows with transition := .null }
     ∃ t, exec .ownFrameTimerExpiry s = .next t ∧
       t.sub.receipts = s.sub.receipts ++
         [⟨a.seq, .showRec, judged.2, some a.eff⟩, ⟨b.seq, .showRec, .rejectedConflict, some b.eff⟩] ∧
       t.shows = sendWord (if judged.2 = .applied then judged.1 else pacingStep judged.1) ∧ t.obj = s.obj ∧
       t.sched.list = s.sched.list.filter (fun x => x.eff != s.timer.frame + 1)) ∧
  (∀ s : State, s.betweenSlots →
     s.ctl.state = .member ∨ s.ctl.state = .loopback ∨
       (s.ctl.state = .leaving ∧ s.ctl.leaveFrame ≠ some (s.timer.frame + 1)) →
     let due := s.sched.list.filter fun x => x.eff == s.timer.frame + 1
     let ok := fun r : HeldRecord => changeValid s.geometry r.change
     let fields := fun r : HeldRecord => if ok r = true then ReceiptOutcome.applied else .rejectedField
     let receipts := fun (outcome : HeldRecord → ReceiptOutcome) (l : List HeldRecord) =>
       (l.filter fun r => r.origin == s.own).map fun r => (⟨r.seq, r.change.kind, outcome r, some r.eff⟩ : Receipt)
     ∃ t, exec .ownFrameTimerExpiry s = .next t ∧
       t.sched.list = s.sched.list.filter (fun x => x.eff != s.timer.frame + 1) ∧
       (t.events.frame.recordsApplied = true ↔ s.events.frame.recordsApplied = true ∨ due ≠ []) ∧
       t.obj = due.foldl (fun o r => if ok r = true then writeObject r.change o else o) s.obj ∧
       ((∀ r ∈ due, r.change.kind ≠ .showRec) →
         t.shows = sendWord (pacingStep { s.shows with transition := .null }) ∧
         t.sub.receipts = s.sub.receipts ++ receipts fields due) ∧
       (∀ before r c a after, due = before ++ r :: after → r.change = .showRec c a → (∀ x ∈ before, x.change.kind ≠ .showRec) →
         let judged := judgeShow c a { s.shows with transition := .null }
         t.shows = sendWord (if judged.2 = .applied then judged.1 else pacingStep judged.1) ∧
         t.sub.receipts = s.sub.receipts ++ receipts fields before ++ receipts (fun _ => judged.2) [r] ++
           receipts (fun x => if x.change.kind = .showRec then .rejectedConflict else fields x) after) ∧
       ((∃ r ∈ due, ok r = true ∧ r.change.kind = .window) →
         t.comp.tile = tileRect s.straps s.cfg ∧ t.comp.views = deriveViews (tileRect s.straps s.cfg) t.obj.windows ∧
         t.comp.qualifying = (qualifying (tileRect s.straps s.cfg) t.obj.windows).length ∧
         (t.events.frame.viewOverflow = true ↔
           s.events.frame.viewOverflow = true ∨ (4 < t.comp.qualifying ∧ s.comp.overflow = false))) ∧
       ((∀ r ∈ due, ok r = true → r.change.kind ≠ .window) →
         t.comp.views = s.comp.views ∧ t.comp.qualifying = s.comp.qualifying ∧ t.comp.overflow = s.comp.overflow ∧
         t.events.frame.viewOverflow = s.events.frame.viewOverflow) ∧
       ((∃ r ∈ due, ok r = true ∧ (r.change.kind = .cursorMove ∨ r.change.kind = .cursorLook)) →
         t.comp.tile = tileRect s.straps s.cfg ∧
         t.comp.placement = placementOf (tileRect s.straps s.cfg) t.obj.curX t.obj.curY ∧
         t.comp.cursorOnTile = (t.obj.look.visible && t.comp.placement.isSome) ∧
         (t.events.frame.cursorTileChanged = true ↔
           s.events.frame.cursorTileChanged = true ∨ t.comp.cursorOnTile ≠ s.comp.cursorOnTile)) ∧
       ((∀ r ∈ due, ok r = true → r.change.kind ≠ .cursorMove ∧ r.change.kind ≠ .cursorLook) →
         t.comp.placement = s.comp.placement ∧ t.comp.cursorOnTile = s.comp.cursorOnTile ∧
         t.events.frame.cursorTileChanged = s.events.frame.cursorTileChanged) ∧
       t.comp.hidden = (if t.shows.state = s.shows.state then s.comp.hidden else decide (t.shows.state = .stopped .blank)))

/-- The judgement at apply: what a valid record of each kind writes, the field its kind names and no other (R103 to R106); a record outside
the conditions leaves the objects and is REJECTED_FIELD (R102); the conditions of each kind (R64, Table 5-2). -/
def Obligations.RecordsJudgedAndWritten : Prop :=
  (∀ (g : Geometry) (o : Objects),
     (∀ i colour, applyObject g (.palette i colour) o =
       ({ o with palette := o.palette.set i.toNat colour i.isLt }, .applied)) ∧
     (∀ i, applyObject g (.background i) o = ({ o with background := i }, .applied)) ∧
     (∀ x y, -31 ≤ x.toInt → x.toInt ≤ (g.canvasW : Int) - 1 → -31 ≤ y.toInt → y.toInt ≤ (g.canvasH : Int) - 1 →
       applyObject g (.cursorMove x y) o = ({ o with curX := x, curY := y }, .applied)) ∧
     (∀ v a b, v.toNat ≤ 1 → applyObject g (.cursorLook v a b) o = ({ o with look := ⟨v == 1, a, b⟩ }, .applied)) ∧
     (∀ (r : Byte) codes (h : r.toNat < 32), applyObject g (.cursorRow r codes) o =
       ({ o with image := o.image.set r.toNat codes }, .applied)) ∧
     (∀ (id : BitVec 4) (h : id.toNat < 8), applyObject g (.windowAbsent id) o =
       ({ o with windows := o.windows.set id.toNat none }, .applied)) ∧
     (∀ (id : BitVec 4) w (h : id.toNat < 8), windowValid g w = true → applyObject g (.windowPresent id 1 w) o =
       ({ o with windows := o.windows.set id.toNat (some w) }, .applied))) ∧
  (∀ (g : Geometry) (o : Objects) (c : Change), changeValid g c = false → applyObject g c o = (o, .rejectedField)) ∧
  (∀ g : Geometry,
     (∀ i c, changeValid g (.palette i c) = true) ∧ (∀ i, changeValid g (.background i) = true) ∧
     (∀ x y, changeValid g (.cursorMove x y) = true ↔
       (-31 ≤ x.toInt ∧ x.toInt ≤ (g.canvasW : Int) - 1) ∧ -31 ≤ y.toInt ∧ y.toInt ≤ (g.canvasH : Int) - 1) ∧
     (∀ v a b, changeValid g (.cursorLook v a b) = true ↔ v = 0 ∨ v = 1) ∧
     (∀ r codes, changeValid g (.cursorRow r codes) = true ↔ r.toNat ≤ 31) ∧
     (∀ id, changeValid g (.windowAbsent id) = true ↔ id.toNat ≤ 7) ∧
     (∀ id flag w, changeValid g (.windowPresent id flag w) = true ↔
       id.toNat ≤ 7 ∧ flag = 1 ∧ w.source.toNat ≤ 7 ∧ w.layer.toNat ≤ 7 ∧ 0 ≤ w.x.toInt ∧ 0 ≤ w.y.toInt ∧
         8 ≤ w.width.toNat ∧ 8 ≤ w.height.toNat ∧ w.x.toInt + w.width.toNat ≤ g.canvasW ∧
         w.y.toInt + w.height.toNat ≤ g.canvasH ∧ w.panX.toNat ≤ 4095 ∧ w.panY.toNat ≤ 4095) ∧
     (∀ c a, changeValid g (.showRec c a) = true ↔
       ((c = 1 ∨ c = 2 ∨ c = 3 ∨ c = 5) ∧ a = 0) ∨ (c = 4 ∧ 2 ≤ a.toNat ∧ a.toNat ≤ 8) ∨ (c = 6 ∧ a.toNat ≤ 1)))

/-- Order legality and effect (R116, R117, Table 8-1): the commands 1 START, 2 HOLD, 3 STEP, 4 PACE, 5 RESUME, 6 STOP in each show state. -/
def Obligations.ShowTable : Prop :=
  ∀ (k : ShowControl) (m : StopMode) (f : Nat),
    let go := fun (st : ShowState) (c a : Byte) => judgeShow c a { k with state := st }
    let becomes := fun (st : ShowState) (n : Nat) (w : SourceWord) =>
      ({ k with state := st, countdown := n, transition := w }, ReceiptOutcome.applied)
    let rejected := fun (st : ShowState) => ({ k with state := st }, ReceiptOutcome.rejectedOrder)
    (go (.stopped m) 1 0 = becomes .running 0 .start ∧ go .running 1 0 = rejected .running ∧ go .held 1 0 = rejected .held ∧
      go (.paced f) 1 0 = rejected (.paced f)) ∧
    (go (.stopped m) 2 0 = rejected (.stopped m) ∧ go .running 2 0 = becomes .held 0 .hold ∧ go .held 2 0 = rejected .held ∧
      go (.paced f) 2 0 = becomes .held 0 .hold) ∧
    (go (.stopped m) 3 0 = rejected (.stopped m) ∧ go .running 3 0 = rejected .running ∧ go .held 3 0 = becomes .held 0 .advance ∧
      go (.paced f) 3 0 = becomes .held 0 .advance) ∧
    (∀ n : Byte, 2 ≤ n.toNat → n.toNat ≤ 8 →
      go (.stopped m) 4 n = rejected (.stopped m) ∧ go .running 4 n = becomes (.paced n.toNat) n.toNat .hold ∧
      go .held 4 n = becomes (.paced n.toNat) n.toNat .null ∧ go (.paced f) 4 n = becomes (.paced n.toNat) n.toNat .null) ∧
    (go (.stopped m) 5 0 = rejected (.stopped m) ∧ go .running 5 0 = rejected .running ∧ go .held 5 0 = becomes .running 0 .resume ∧
      go (.paced f) 5 0 = becomes .running 0 .resume) ∧
    (∀ st : ShowState, st = .running ∨ st = .held ∨ st = .paced f →
      go st 6 0 = becomes (.stopped .keep) 0 .stopKeep ∧ go st 6 1 = becomes (.stopped .blank) 0 .stopBlank) ∧
    go (.stopped m) 6 0 = rejected (.stopped m) ∧ go (.stopped m) 6 1 = rejected (.stopped m) ∧
    ∀ c a : Byte, showFieldsValid c a = false → judgeShow c a k = (k, .rejectedField)

/-- The pacing step and the word of a frame start (R118, R121). The frames of an install (R125, R126, Table 8-2): one pacing step for every
frame after the install position and not after the current one, no word, and the install word deferred. For an install position after the
current frame, of which R125 says nothing, the steps are (current frame - position) mod 65536: the model's choice (log 33). -/
def Obligations.PacingWordAndInstallWalk : Prop :=
  ((∀ (k : ShowControl) (n : Nat), k.state = .paced n → k.transition = .null →
     (k.countdown = 1 → pacingStep k = { k with countdown := n, transition := .advance }) ∧
     (2 ≤ k.countdown → pacingStep k = { k with countdown := k.countdown - 1 })) ∧
   (∀ k : ShowControl, (∀ n, k.state ≠ .paced n) → pacingStep k = k) ∧
   (∀ k : ShowControl,
     (k.transition ≠ .null → sendWord k = { k with lastWord := k.transition, deferred := none }) ∧
     (∀ w, k.transition = .null → k.deferred = some w → sendWord k = { k with lastWord := w, deferred := none }) ∧
     (k.transition = .null → k.deferred = none → sendWord k = { k with lastWord := .null }))) ∧
  ((∀ (k : ShowControl) (p g : Frame), k.installPos = some p → (∀ n, k.state ≠ .paced n) →
     endInstall g k = { k with
       installPos := none
       deferred := some (match k.state with
         | .stopped .keep => .stopKeep
         | .stopped .blank => .stopBlank
         | .running => .start
         | .held => .hold
         | .paced _ => .hold) }) ∧
   ∀ (k : ShowControl) (p g : Frame) (n : Nat), k.installPos = some p → k.state = .paced n → 2 ≤ n → 1 ≤ k.countdown → k.countdown ≤ n →
     ∃ c, endInstall g k = { k with installPos := none, deferred := some .hold, countdown := c } ∧
       1 ≤ c ∧ c ≤ n ∧ (c + (g - p).toNat) % n = k.countdown % n)

/-- The drop of LISTENING and JOINING (R94) and the aging of E_lost (R136): records not after the bound leave, own ones with UNCERTAIN, and
nothing is applied. A founding at the end of a listening empties the list (R41). -/
def Obligations.JoiningDropsHeldRecords : Prop :=
  ∀ s : State, s.betweenSlots → s.ctl.state = .joining ∨ s.ctl.state = .listening →
    let bound := if s.snap.coll = .collecting then s.snap.collFrame else s.timer.frame
    let founds := s.ctl.state = .listening ∧ s.ctl.countdown ≤ 1 ∧ s.ctl.memberHeard = false
    ∃ t, exec .ownFrameTimerExpiry s = .next t ∧
      t.sched.dropBound = some bound ∧
      (¬founds → t.sched.list = s.sched.list.filter (fun r => frameAfter r.eff bound) ∧ t.obj = s.obj) ∧
      (founds → t.sched.list = []) ∧
      t.sub = { s.sub with
        receipts := s.sub.receipts ++ (s.sched.list.filter fun r => !frameAfter r.eff bound && r.origin == s.own).map fun r =>
          ⟨r.seq, r.change.kind, .uncertain, some r.eff⟩ } ∧
      t.events.frame.recordsApplied = s.events.frame.recordsApplied ∧
      (s.ctl.state = .joining → t.ctl = s.ctl ∧ t.comp.showing = s.comp.showing) ∧
      (∀ e, s.snap.eLost = some e → ¬founds →
        t.snap.eLost = some (if 16384 ≤ (s.timer.frame + 1 - e).toNat ∧ (s.timer.frame + 1 - e).toNat ≤ 32767 then s.timer.frame
          else e))

/-! ### Compositor -/

/-- The view list (R149, R150, R151): the qualifying count is the number of present windows that reach the tile, and the list holds the
first four of them, higher layer first and lower id first within a layer, each with its source, its clip rectangle and its source origin; a
window left out stands behind every one that is kept. -/
def Obligations.ViewListOrderAndEntries : Prop :=
  ∀ (p : Straps) (c : Configuration) (o : Objects) (k : Compositor),
    let col := p.pos.val % p.columns
    let row := p.pos.val / p.columns
    let tx : Int := col * c.tileW.toNat
    let ty : Int := row * c.tileH.toNat
    let reaches := fun w : Window =>
      max w.x.toInt tx < min (w.x.toInt + w.width.toNat) (tx + c.tileW.toNat) ∧
        max w.y.toInt ty < min (w.y.toInt + w.height.toNat) (ty + c.tileH.toNat)
    let r := recomputeViews p c o k
    r.tile = ⟨tx, tx + c.tileW.toNat, ty, ty + c.tileH.toNat⟩ ∧
    r.qualifying = ((List.finRange 8).filter fun i =>
      match o.windows[i] with
      | none => false
      | some w => decide (reaches w)).length ∧
    r.overflow = decide (4 < r.qualifying) ∧
    r.views.length = min 4 r.qualifying ∧
    (∀ v ∈ r.views, ∃ w, o.windows[v.id] = some w ∧ reaches w ∧ v.source = w.source ∧
      v.clip = ⟨max w.x.toInt tx - tx, min (w.x.toInt + w.width.toNat) (tx + c.tileW.toNat) - tx,
        max w.y.toInt ty - ty, min (w.y.toInt + w.height.toNat) (ty + c.tileH.toNat) - ty⟩ ∧
      v.originX = w.panX.toNat + max w.x.toInt tx - w.x.toInt ∧ v.originY = w.panY.toNat + max w.y.toInt ty - w.y.toInt) ∧
    (r.views.Pairwise fun a b => ∀ wa wb, o.windows[a.id] = some wa → o.windows[b.id] = some wb →
      wb.layer.toNat < wa.layer.toNat ∨ (wa.layer = wb.layer ∧ a.id < b.id)) ∧
    (∀ i w, o.windows[i] = some w → reaches w → (∀ v ∈ r.views, v.id ≠ i) →
      4 < r.qualifying ∧ ∀ v ∈ r.views, ∀ wv, o.windows[v.id] = some wv →
        w.layer.toNat < wv.layer.toNat ∨ (w.layer = wv.layer ∧ v.id < i)) ∧
    r.placement = k.placement ∧ r.cursorOnTile = k.cursorOnTile ∧ r.hidden = k.hidden ∧ r.showing = k.showing

/-- At each recompute: the view-overflow flag and VIEW_OVERFLOW (R152); the cursor placement, the part of the 32 × 32 square on the tile
(R157), the cursor-on-tile flag, and CURSOR_TILE_CHANGED at every change of the flag (R158). -/
def Obligations.OverflowAndCursorPlacement : Prop :=
  (∀ s : State,
     let t := s.refreshViews
     (t.comp.overflow = true ↔ 4 < t.comp.qualifying) ∧
     (t.events.frame.viewOverflow = true ↔
       s.events.frame.viewOverflow = true ∨ (4 < t.comp.qualifying ∧ s.comp.overflow = false)) ∧
     t.events = { s.events with frame.viewOverflow := t.events.frame.viewOverflow }) ∧
  (∀ s : State,
     let t := s.refreshCursor
     let tile := tileRect s.straps s.cfg
     let a0 := max s.obj.curX.toInt tile.x0
     let a1 := min (s.obj.curX.toInt + 32) tile.x1
     let b0 := max s.obj.curY.toInt tile.y0
     let b1 := min (s.obj.curY.toInt + 32) tile.y1
     t.comp.placement =
       (if a0 < a1 ∧ b0 < b1 then
         some ⟨a0 - tile.x0, b0 - tile.y0, a0 - s.obj.curX.toInt, b0 - s.obj.curY.toInt, a1 - a0, b1 - b0⟩
       else none) ∧
     (∀ p, t.comp.placement = some p → 0 ≤ p.startX ∧ p.startX < tile.x1 - tile.x0 ∧ 0 ≤ p.startY ∧
       p.startY < tile.y1 - tile.y0 ∧ 0 ≤ p.presetX ∧ p.presetX ≤ 31 ∧ 0 ≤ p.presetY ∧ p.presetY ≤ 31 ∧ 1 ≤ p.extentW ∧
       p.extentW ≤ 32 ∧ 1 ≤ p.extentH ∧ p.extentH ≤ 32) ∧
     (t.comp.cursorOnTile = true ↔ s.obj.look.visible = true ∧ t.comp.placement ≠ none) ∧
     (t.events.frame.cursorTileChanged = true ↔
       s.events.frame.cursorTileChanged = true ∨ t.comp.cursorOnTile ≠ s.comp.cursorOnTile))

/-- The pixel at a point of the tile (R154, R155, R156, R159): black in BLANK; otherwise the topmost view's source through the palette, or
the background, with the cursor over it. What the sources present is arbitrary. The code at column x of a row of the cursor image is bits 2
(x mod 4) and 2 (x mod 4) + 1 of its byte x / 4 (Table 13-3). -/
def Obligations.PixelAtPoint : Prop :=
  (∀ (sources : Sources) (s : State) (u v : Int),
     let beneath := s.colourBeneath sources u v
     let background := paletteAt s.obj.palette s.obj.background
     let inside := fun p : Placement => p.startX ≤ u ∧ u < p.startX + p.extentW ∧ p.startY ≤ v ∧ v < p.startY + p.extentH
     ((s.comp.hidden = true ∨ ∀ e ∈ s.comp.views, e.clip.holds u v = false) → beneath = background) ∧
     (∀ before e after, s.comp.hidden = false → s.comp.views = before ++ e :: after →
       (∀ b ∈ before, b.clip.holds u v = false) → e.clip.holds u v = true →
       (sources e.source (e.originX + u - e.clip.x0) (e.originY + v - e.clip.y0) = none → beneath = background) ∧
       ∀ index, sources e.source (e.originX + u - e.clip.x0) (e.originY + v - e.clip.y0) = some index →
         beneath = paletteAt s.obj.palette index) ∧
     (s.comp.showing = false → s.pixelAt sources u v = ⟨0, 0, 0⟩) ∧
     (s.comp.showing = true →
       (s.obj.look.visible = false ∨ s.comp.placement = none ∨ (∃ p, s.comp.placement = some p ∧ ¬inside p) →
         s.pixelAt sources u v = beneath) ∧
       ∀ p, s.obj.look.visible = true → s.comp.placement = some p → inside p →
         let code := cursorCode s.obj.image (p.presetX + u - p.startX).toNat (p.presetY + v - p.startY).toNat
         (code = 0 → s.pixelAt sources u v = beneath) ∧ (code = 1 → s.pixelAt sources u v = s.obj.look.colourA) ∧
         (code = 2 → s.pixelAt sources u v = s.obj.look.colourB) ∧
         (code = 3 → s.pixelAt sources u v = ⟨255 - beneath.r, 255 - beneath.g, 255 - beneath.b⟩))) ∧
  (∀ (image : Vector CursorBytes 32) (x y : Nat) (hx : x < 32) (hy : y < 32),
     (cursorCode image x y).toNat = (image[y][x / 4]'(by omega)).toNat / 4 ^ (x % 4) % 4)

/-- What the part drives on the pair and to the panel. The pair (R1): while the own message is sent, bit j of the byte that is under way, a
start bit, eight data bits low bit first and a stop bit in 2 µs, the bytes with no gap; otherwise nothing, and only in JOINING, MEMBER and
LEAVING. The picture (R160, R149): the pixels of the tile rectangle taken at the last recompute in raster order, PIX_DE high for each of
them, cut where a frame start ends it; a CONFIG_TILE write changes none of it (R149, R179). How far the picture has come is an argument (log
31). That PIX_DE is high for the same pixels between a reset and the first frame start, of which R160 says nothing, is the model's choice
(log 31). -/
def Obligations.PairBitsAndPicture : Prop :=
  (∀ s : State,
     (s.bus.sending = false → s.pairBit = none) ∧
     (64 * s.bus.txBuffer.length ≤ s.bus.sendElapsed → s.pairBit = none) ∧
     (StationInv s → s.pairBit.isSome = true → s.ctl.state = .joining ∨ s.ctl.state = .member ∨ s.ctl.state = .leaving) ∧
     ∀ (i j : Nat) (b : Byte), s.bus.sending = true → s.bus.txBuffer[i]? = some b → j < 10 →
       64 * (10 * i + j) ≤ 10 * s.bus.sendElapsed → 10 * s.bus.sendElapsed < 64 * (10 * i + j + 1) →
       s.pairBit = some (if j = 0 then .start else if j = 9 then .stop else .data (b.getLsbD (j - 1)))) ∧
  (∀ (sources : Sources) (s : State),
     let w := (s.comp.tile.x1 - s.comp.tile.x0).toNat
     let h := (s.comp.tile.y1 - s.comp.tile.y0).toNat
     (s.picture sources).length = w * h ∧
     ∀ n : Nat,
       (s.pixDe n = true ↔ n < w * h) ∧
       (n < w * h → s.pixelOut sources n = some (s.pixelAt sources ↑(n % w) ↑(n / w))) ∧
       (w * h ≤ n → s.pixelOut sources n = none) ∧
       (s.picture sources)[n]? = s.pixelOut sources n ∧
       ∀ m : Nat, (s.pictureCut sources n)[m]? = if m < n then s.pixelOut sources m else none) ∧
  (∀ (reg : ConfigReg) (bytes : List Byte) (s : State), ∃ t, exec (.configWrite reg bytes) s = .next t ∧ t.comp = s.comp)

/-! ### Submission -/

/-- SUBMIT (R66, R67, R65): accepted, it appends a WAITING record; refused, the first condition that fails gives the reason. The stage
buffer (R65, R178): each data byte replaces the stage byte at its place, and bytes after stage byte 13 are ignored, in every state. The
record that the stage bytes hold (R191): stage byte k carries bus byte k + 2 of Table 13-3, but the pans of a present window are the two
12-bit halves of stage bytes 11 to 13. -/
def Obligations.SubmitAndStage : Prop :=
  (∀ s : State,
     let c := stagedChange s.sub.stage
     let taken := s.ctl.state = .member ∨ s.ctl.state = .joining ∨ s.ctl.state = .loopback
     let valid := ∃ x, c = some x ∧ changeValid s.geometry x = true
     let refusedWith := fun reason : RefusalReason =>
       exec .submit s = .next
         { s.portWrite 0x28 with sub.refused := true, sub.refusalReason := reason, sub.refusalPath := .stage }
     (∀ x, taken → c = some x → changeValid s.geometry x = true → s.sub.outbound.length < 8 → 0 < s.credits →
       exec .submit s = .next { s.portWrite 0x28 with sub.outbound := s.sub.outbound ++ [⟨x, .waiting⟩] }) ∧
     (¬taken → refusedWith .state) ∧ (taken → ¬valid → refusedWith .invalid) ∧
     (taken → valid → 8 ≤ s.sub.outbound.length → refusedWith .queueFull) ∧
     (taken → valid → s.sub.outbound.length < 8 → s.credits = 0 → refusedWith .noCredit)) ∧
  (∀ (reg : Fin 14) (n : Nat) (value : Byte) (s : State),
     ∃ t, exec (.stageWrite reg n value) s = .next t ∧
       (∀ k : Fin 14, t.sub.stage[k] = if k.val = reg.val + n then value else s.sub.stage[k]) ∧
       t = { s with sub := { s.sub with stage := t.sub.stage }, port := t.port }) ∧
  (∀ t : Vector Byte 14,
     (t[0] = 1 → stagedChange t = some (.palette t[1] ⟨t[2], t[3], t[4]⟩)) ∧
     (t[0] = 2 → stagedChange t = some (.cursorMove (t[2] ++ t[1]) (t[4] ++ t[3]))) ∧
     (t[0] = 3 → stagedChange t = some (.cursorLook t[1] ⟨t[2], t[3], t[4]⟩ ⟨t[5], t[6], t[7]⟩)) ∧
     (t[0] = 4 → ∃ codes : CursorBytes, stagedChange t = some (.cursorRow t[1] codes) ∧
       ∀ j : Fin 8, codes[j] = t[j.val + 2]'(by omega)) ∧
     (t[0] = 5 → t[1].toNat < 16 → stagedChange t = some (.windowAbsent (t[1].extractLsb' 0 4))) ∧
     (t[0] = 5 → 16 ≤ t[1].toNat → ∃ w : Window,
       stagedChange t = some (.windowPresent (t[1].extractLsb' 0 4) (t[1].extractLsb' 4 4) w) ∧
       w.source = t[2].extractLsb' 0 4 ∧ w.layer = t[2].extractLsb' 4 4 ∧ w.x = t[4] ++ t[3] ∧ w.y = t[6] ++ t[5] ∧
       w.width = t[8] ++ t[7] ∧ w.height = t[10] ++ t[9] ∧ w.panX.toNat = t[11].toNat + 256 * (t[12].toNat % 16) ∧
       w.panY.toNat = t[12].toNat / 16 + 16 * t[13].toNat) ∧
     (t[0] = 6 → stagedChange t = some (.background t[1])) ∧ (t[0] = 7 → stagedChange t = some (.showRec t[1] t[2])) ∧
     (t[0] = 0 ∨ 8 ≤ t[0].toNat → stagedChange t = none))

/-- The palette write holding register (R68): index, three components, and the record the blue write submits. The palette read holding
register (R69): the index loads a live entry, and three reads return it and load the next. The cursor row builder (R70, R71): the row index
sets both sides, a written byte takes its place and byte 7 submits the row, a read returns the held byte and byte 7 loads the next row. The
blue write and byte 7 are refused like any submission, in a state that takes none, with a full queue, or with no credit (R66, R67): the
components, or the eight bytes, are kept, the pointer goes back to its start, and the index or the row stays. -/
def Obligations.HoldingRegisters : Prop :=
  ((∀ (value : Byte) (s : State),
      exec (.palIndexWrite value) s = .next { s.portWrite 0x30 with sub.palWrite := ⟨value, .red, s.sub.palWrite.held⟩ } ∧
      (s.sub.palWrite.pointer = .red → exec (.palDataWrite value) s = .next
        { s.portWrite 0x31 with sub.palWrite := ⟨s.sub.palWrite.index, .green, { s.sub.palWrite.held with r := value }⟩ }) ∧
      (s.sub.palWrite.pointer = .green → exec (.palDataWrite value) s = .next
        { s.portWrite 0x31 with sub.palWrite := ⟨s.sub.palWrite.index, .blue, { s.sub.palWrite.held with g := value }⟩ }) ∧
      (s.sub.palWrite.pointer = .blue →
        let colour : RGB := ⟨s.sub.palWrite.held.r, s.sub.palWrite.held.g, value⟩
        (s.ctl.state = .member ∨ s.ctl.state = .joining ∨ s.ctl.state = .loopback → s.sub.outbound.length < 8 → 0 < s.credits →
          exec (.palDataWrite value) s = .next
            { s.portWrite 0x31 with
              sub.palWrite := ⟨s.sub.palWrite.index + 1, .red, colour⟩
              sub.outbound := s.sub.outbound ++ [⟨.palette s.sub.palWrite.index colour, .waiting⟩] }) ∧
        let taken := s.ctl.state = .member ∨ s.ctl.state = .joining ∨ s.ctl.state = .loopback
        let refusedWith := fun reason : RefusalReason =>
          exec (.palDataWrite value) s = .next
            { s.portWrite 0x31 with
              sub.palWrite := ⟨s.sub.palWrite.index, .red, colour⟩
              sub.refused := true, sub.refusalReason := reason, sub.refusalPath := .palette }
        (¬taken → refusedWith .state) ∧ (taken → 8 ≤ s.sub.outbound.length → refusedWith .queueFull) ∧
        (taken → s.sub.outbound.length < 8 → s.credits = 0 → refusedWith .noCredit))) ∧
   (∀ (value : Byte) (s : State),
      exec (.palReadIndexWrite value) s = .next
        { s.portWrite 0x32 with sub.palRead := ⟨value, .red, paletteAt s.obj.palette value⟩ } ∧
      (s.sub.palRead.pointer = .red → exec .palDataRead s = .next
        { s.portRead 0x31 s.sub.palRead.held.r with sub.palRead := { s.sub.palRead with pointer := .green } }) ∧
      (s.sub.palRead.pointer = .green → exec .palDataRead s = .next
        { s.portRead 0x31 s.sub.palRead.held.g with sub.palRead := { s.sub.palRead with pointer := .blue } }) ∧
      (s.sub.palRead.pointer = .blue → exec .palDataRead s = .next
        { s.portRead 0x31 s.sub.palRead.held.b with
          sub.palRead := ⟨s.sub.palRead.index + 1, .red, paletteAt s.obj.palette (s.sub.palRead.index + 1)⟩ }))) ∧
  (∀ (value : Byte) (s : State),
     (∀ row : Fin 32, row.val = value.toNat % 32 → exec (.cursorRowIndexWrite value) s = .next
       { s.portWrite 0x33 with
         sub.curWrite := ⟨row, 0, s.sub.curWrite.held⟩
         sub.curRead := ⟨row, 0, s.obj.image[row]⟩ }) ∧
     (s.sub.curWrite.pointer.val < 7 → exec (.cursorDataWrite value) s = .next
       { s.portWrite 0x34 with
         sub.curWrite := ⟨s.sub.curWrite.row, s.sub.curWrite.pointer + 1, s.sub.curWrite.held.set s.sub.curWrite.pointer value⟩ }) ∧
     (s.sub.curWrite.pointer = 7 →
       s.ctl.state = .member ∨ s.ctl.state = .joining ∨ s.ctl.state = .loopback → s.sub.outbound.length < 8 → 0 < s.credits →
       exec (.cursorDataWrite value) s = .next
         { s.portWrite 0x34 with
           sub.curWrite := ⟨s.sub.curWrite.row + 1, 0, s.sub.curWrite.held.set 7 value⟩
           sub.outbound := s.sub.outbound ++
             [⟨.cursorRow (BitVec.ofNat 8 s.sub.curWrite.row.val) (s.sub.curWrite.held.set 7 value), .waiting⟩] }) ∧
     (s.sub.curWrite.pointer = 7 →
       let taken := s.ctl.state = .member ∨ s.ctl.state = .joining ∨ s.ctl.state = .loopback
       let refusedWith := fun reason : RefusalReason =>
         exec (.cursorDataWrite value) s = .next
           { s.portWrite 0x34 with
             sub.curWrite := ⟨s.sub.curWrite.row, 0, s.sub.curWrite.held.set 7 value⟩
             sub.refused := true, sub.refusalReason := reason, sub.refusalPath := .cursor }
       (¬taken → refusedWith .state) ∧ (taken → 8 ≤ s.sub.outbound.length → refusedWith .queueFull) ∧
       (taken → s.sub.outbound.length < 8 → s.credits = 0 → refusedWith .noCredit)) ∧
     (s.sub.curRead.pointer.val < 7 → exec .cursorDataRead s = .next
       { s.portRead 0x34 s.sub.curRead.held[s.sub.curRead.pointer] with
         sub.curRead := { s.sub.curRead with pointer := s.sub.curRead.pointer + 1 } }) ∧
     (s.sub.curRead.pointer = 7 → exec .cursorDataRead s = .next
       { s.portRead 0x34 s.sub.curRead.held[7] with
         sub.curRead := ⟨s.sub.curRead.row + 1, 0, s.obj.image[s.sub.curRead.row + 1]⟩ }))

/-- A read of RECEIPT removes the oldest receipt and returns its fields; an empty FIFO gives the empty marker and stays (R77, Table 13-8). A
read of SUBMIT_STATUS returns the counts and the last refusal and clears SUBMIT_REFUSED alone (R67, R78). -/
def Obligations.ReceiptAndSubmitStatusReads : Prop :=
  (∀ s : State,
     (∀ r rest, s.sub.receipts = r :: rest → exec .receiptRead s = .next
       { s.portReadWhole 0x2A
           [r.seq, kindCode r.kind, outcomeCode r.outcome, (r.eff.getD 0).extractLsb' 0 8, (r.eff.getD 0).extractLsb' 8 8] with
         sub.receipts := rest }) ∧
     (s.sub.receipts ≠ [] → CreditInv s → ∃ t, exec .receiptRead s = .next t ∧ t.credits = s.credits + 1) ∧
     (s.sub.receipts = [] → exec .receiptRead s = .next (s.portReadWhole 0x2A [0, 0, 0, 0, 0]))) ∧
  (∀ s : State,
     exec .submitStatusRead s = .next
       { s.portReadWhole 0x05
           [BitVec.ofNat 8 (16 - (s.sub.outbound.length + s.inFlight + s.sub.receipts.length)),
             BitVec.ofNat 8 s.sub.outbound.length, BitVec.ofNat 8 s.inFlight, BitVec.ofNat 8 s.sub.receipts.length,
             if s.sub.refused then 1 else 0, refusalCode s.sub.refusalReason, pathCode s.sub.refusalPath] with
         sub.refused := false })

/-! ### Control port and interrupts -/

/-- A read of an event set returns its flags and clears them, and leaves the other sets as they are (R184, Table 13-7). A read of a counter
returns the count and clears it, and leaves the other counters (R188). -/
def Obligations.EventAndCounterReads : Prop :=
  (∀ s : State,
     exec (.eventSetRead .fault) s = .next
       { s.portReadWhole 0x11 [if s.events.fault then 1 else 0] with events.fault := false } ∧
     (∃ b, exec (.eventSetRead .wall) s = .next
         { s.portReadWhole 0x12 [b] with
           events.wall := ⟨false, false, false, false, false, false⟩ } ∧
       (b.getLsbD 0 = s.events.wall.stateChanged ∧ b.getLsbD 1 = s.events.wall.rosterChanged ∧
         b.getLsbD 2 = s.events.wall.resyncStarted ∧ b.getLsbD 3 = s.events.wall.snapshotAbandoned ∧
         b.getLsbD 4 = s.events.wall.commandRefused ∧ b.getLsbD 5 = s.events.wall.writeIgnored ∧ b.toNat < 64)) ∧
     (∃ b, exec (.eventSetRead .service) s = .next
         { s.portReadWhole 0x13 [b] with
           events.service := ⟨false, false, false, false, false, false⟩ } ∧
       (b.getLsbD 0 = s.events.service.presenceChanged ∧ b.getLsbD 1 = s.events.service.latchChanged ∧
         b.getLsbD 2 = s.events.service.buttonPressed ∧ b.getLsbD 3 = s.events.service.powerFault ∧
         b.getLsbD 4 = s.events.service.serviceDone ∧ b.getLsbD 5 = s.events.service.serviceBusy ∧ b.toNat < 64)) ∧
     (∃ b, exec (.eventSetRead .frame) s = .next
         { s.portReadWhole 0x14 [b] with events.frame := ⟨false, false, false, false⟩ } ∧
       (b.getLsbD 0 = s.events.frame.frameStarted ∧ b.getLsbD 1 = s.events.frame.recordsApplied ∧
         b.getLsbD 2 = s.events.frame.cursorTileChanged ∧ b.getLsbD 3 = s.events.frame.viewOverflow ∧ b.toNat < 16))) ∧
  (∀ s : State,
     exec (.counterRead .badMessages) s = .next
       { s.portReadWhole 0x18 [s.bus.badMessages] with bus.badMessages := 0 } ∧
     exec (.counterRead .earlyStrobes) s = .next
       { s.portReadWhole 0x19 [s.timer.earlyStrobes] with timer.earlyStrobes := 0 } ∧
     exec (.counterRead .outOfWindow) s = .next
       { s.portReadWhole 0x1A [s.sched.outOfWindow] with sched.outOfWindow := 0 })

/-- A configuration write (R179, R177): judged at its last byte; taken in OFFLINE with every field in range, and otherwise ignored whole
with WRITE_IGNORED. A shorter transaction changes nothing. -/
def Obligations.ConfigWriteJudged : Prop :=
  ∀ (w0 w1 h0 h1 p0 p1 l sl a : Byte) (s : State),
    let sizeOk := fun v : Half => 64 ≤ v.toNat ∧ v.toNat ≤ 4096 ∧ v.toNat % 8 = 0
    let tileOk := sizeOk (h1 ++ h0) ∧ sizeOk (w1 ++ w0)
    let wallOk := 10000 ≤ (p1 ++ p0 : Half).toNat ∧ (p1 ++ p0 : Half).toNat ≤ 40000 ∧ 1 ≤ l.toNat ∧ l.toNat ≤ 15 ∧
      2 ≤ sl.toNat ∧ sl.toNat ≤ 15
    (s.ctl.state = .offline → tileOk → exec (.configWrite .tile [w0, w1, h0, h1]) s = .next
      { s.portWriteAt 0x20 4 with cfg.tileW := w1 ++ w0, cfg.tileH := h1 ++ h0 }) ∧
    (s.ctl.state ≠ .offline ∨ ¬tileOk → exec (.configWrite .tile [w0, w1, h0, h1]) s = .next
      { s.portWriteAt 0x20 4 with events.wall.writeIgnored := true }) ∧
    (s.ctl.state = .offline → wallOk → exec (.configWrite .wall [p0, p1, l, sl, a]) s = .next
      { s.portWriteAt 0x21 5 with
        cfg.period := p1 ++ p0, cfg.lead := l, cfg.silence := sl, cfg.autoLeave := a.getLsbD 0 }) ∧
    (s.ctl.state ≠ .offline ∨ ¬wallOk → exec (.configWrite .wall [p0, p1, l, sl, a]) s = .next
      { s.portWriteAt 0x21 5 with events.wall.writeIgnored := true }) ∧
    ∀ bytes : List Byte,
      (bytes.length < 4 → exec (.configWrite .tile bytes) s = .next (s.portWriteAt 0x20 bytes.length)) ∧
      (bytes.length < 5 → exec (.configWrite .wall bytes) s = .next (s.portWriteAt 0x21 bytes.length))

/-- IRQ_ENABLE replaces the five enables in every state and gates nothing else (R180, R186). IRQ_IDENT names the highest-priority source
that is enabled and pending, 0 when there is none, which is when IRQ_N is released (R183, R185, R186, R187). -/
def Obligations.InterruptEnableAndIdent : Prop :=
  (∀ (value : Byte) (s : State),
     ∃ t, exec (.irqEnableWrite value) s = .next t ∧
       t.events = { s.events with
         enables := ⟨value.getLsbD 0, value.getLsbD 1, value.getLsbD 2, value.getLsbD 3, value.getLsbD 4⟩ } ∧
       t = { s.portWriteAt 0x22 1 with events := t.events } ∧
       (t.irqAsserted = true ↔
         (value.getLsbD 0 = true ∧ s.faultPending = true) ∨ (value.getLsbD 1 = true ∧ s.wallPending = true) ∨
           (value.getLsbD 2 = true ∧ s.receiptPending = true) ∨ (value.getLsbD 3 = true ∧ s.servicePending = true) ∨
           (value.getLsbD 4 = true ∧ s.framePending = true))) ∧
  (∀ s : State,
     let on : Fin 5 → Bool := fun i => match i with
       | 0 => s.events.enables.fault && s.events.fault
       | 1 => s.events.enables.wall && (s.events.wall.stateChanged || s.events.wall.rosterChanged || s.events.wall.resyncStarted ||
           s.events.wall.snapshotAbandoned || s.events.wall.commandRefused || s.events.wall.writeIgnored)
       | 2 => s.events.enables.receipt && (decide (s.sub.receipts ≠ []) || s.sub.refused)
       | 3 => s.events.enables.service && (s.events.service.presenceChanged || s.events.service.latchChanged ||
           s.events.service.buttonPressed || s.events.service.powerFault || s.events.service.serviceDone || s.events.service.serviceBusy)
       | 4 => s.events.enables.frame && (s.events.frame.frameStarted || s.events.frame.recordsApplied ||
           s.events.frame.cursorTileChanged || s.events.frame.viewOverflow)
     (∀ i : Fin 5, s.irqIdent.toNat = i.val + 1 ↔ on i = true ∧ ∀ j, j < i → on j = false) ∧
     (s.irqIdent = 0 ↔ ∀ i, on i = false) ∧ (s.irqAsserted = true ↔ ∃ i, on i = true))

/-- What each register returns (R33, R54, R82, R111, R112, R115, R147, R161, R175, R178, Table 13-8), byte by byte, with the codes of Table
13-6; a field without a meaning in the present status reads 0 (R147; that the next part index reads as held is log 15). Each register has
its fixed width; bytes beyond it, and every byte of an index that names no register, read 0 (R178); a STAGE transaction goes on to the next
stage bytes; each byte of PAL_DATA and CURSOR_DATA is the held copy (R110); the other data ports are only written, and read 0 (R178, R181).
-/
def Obligations.StatusRegistersReturnState : Prop :=
  (∀ s : State,
     let half := fun h : Half => [h.extractLsb' 0 8, h.extractLsb' 8 8]
     let bit := fun b : Bool => (if b then 1 else 0 : Byte)
     let num := fun n : Nat => BitVec.ofNat 8 n
     let int := fun v : Int => half (BitVec.ofInt 16 v)
     let colour := fun c : RGB => [c.r, c.g, c.b]
     let collecting := s.snap.coll = .collecting
     s.registerBytes .stationStatus =
       [(stationCode s.ctl.state).setWidth 8, faultCode s.ctl.faultReason, joinCode s.ctl.joinReason, causeCode s.ctl.resyncCause,
         (match s.reference with | none => 0x10 | some p => num p.val), num s.ctl.countdown] ∧
     s.registerBytes .busStatus = [readbackCode s.bus.readback, num s.bus.runCount] ∧
     s.registerBytes .frameNumber = half s.timer.frame ∧
     s.registerBytes .straps = [num s.straps.pos.val, num (s.straps.colPins.val + 1), num (s.straps.rowPins.val + 1)] ∧
     (∀ p : Position, (s.registerBytes .roster)[2 * p.val]? = some (entryCode (s.entry p).state) ∧
       (s.registerBytes .roster)[2 * p.val + 1]? = some (num (s.entry p).miss)) ∧
     s.registerBytes .scheduleStatus = num s.sched.list.length ::
       (match s.sched.list with | [] => [0, 0, 0] | r :: _ => 1 :: half r.eff) ∧
     s.registerBytes .snapshotStatus =
       [bit s.snap.streaming] ++ half (if s.snap.streaming then s.snap.streamFrame else 0) ++
         [num s.snap.nextPart, collectionCode s.snap.coll] ++ half (if collecting then s.snap.collFrame else 0) ++
         [if collecting then num s.snap.collSource.val else 0, if collecting then num s.snap.nextExpected else 0] ++
         (match s.snap.eLost with | none => [0, 0, 0] | some e => 1 :: half e) ∧
     s.registerBytes .composeStatus =
       [bit s.comp.showing, bit s.comp.hidden, num s.comp.views.length] ++
         ((s.comp.views.map fun (v : View) => num v.id.val) ++ [0, 0, 0, 0]).take 4 ++
         [num s.comp.qualifying, bit s.comp.overflow ||| (bit s.comp.cursorOnTile <<< 1)] ++
         (match s.comp.placement with
         | none => [0, 0, 0, 0, 0, 0, 0, 0, 0]
         | some p => [1] ++ int p.startX ++ int p.startY ++ [BitVec.ofInt 8 p.presetX, BitVec.ofInt 8 p.presetY,
             BitVec.ofInt 8 p.extentW, BitVec.ofInt 8 p.extentH]) ∧
     s.registerBytes .serviceStatus =
       [bit s.svc.presence.value ||| (bit s.svc.latch.value <<< 1) ||| (bit s.svc.button.value <<< 2) ||| (bit s.svc.pgood <<< 3),
         bit s.svc.request, powerCode s.svc.power, bit s.svc.powerTimer.isSome, ledCode s.svc.led, bit s.svc.follow,
         serviceCommandCode s.svc.command, serviceOutcomeCode s.svc.outcome] ∧
     s.registerBytes .showLive =
       [showCode s.shows.state,
         (match s.shows.state with | .stopped .blank => 1 | .paced n => num n | _ => 0), num s.shows.countdown,
         wordCode s.shows.lastWord] ∧
     s.registerBytes .cursorLive = [bit s.obj.look.visible] ++ colour s.obj.look.colourA ++ colour s.obj.look.colourB ++
       half s.obj.curX ++ half s.obj.curY ∧
     s.registerBytes .backgroundLive = [s.obj.background] ∧
     (∀ (i : Fin 8) (j : Nat), j < 16 → (s.registerBytes .windowsLive)[16 * i.val + j]? =
       (match s.obj.windows[i] with
       | none => List.replicate 16 0
       | some w => [1, w.source.setWidth 8, w.layer.setWidth 8, 0] ++ half w.x ++ half w.y ++ half w.width ++ half w.height ++
           half w.panX ++ half w.panY)[j]?) ∧
     s.registerBytes .irqIdent = [s.irqIdent] ∧
     s.registerBytes (.config .tile) = half s.cfg.tileW ++ half s.cfg.tileH ∧
     s.registerBytes (.config .wall) = half s.cfg.period ++ [s.cfg.lead, s.cfg.silence, bit s.cfg.autoLeave] ∧
     s.registerBytes .command = [0] ∧ s.registerBytes .serviceControl = [0] ∧ s.registerBytes .palIndex = [0] ∧
     s.registerBytes .palReadIndex = [0] ∧ s.registerBytes .cursorRowIndex = [0] ∧
     s.registerBytes .submitStatus =
       [num s.credits, num s.sub.outbound.length, num s.inFlight, num s.sub.receipts.length, bit s.sub.refused,
         refusalCode s.sub.refusalReason, pathCode s.sub.refusalPath] ∧
     s.registerBytes .receipt =
       (match s.sub.receipts with
       | [] => [0, 0, 0, 0, 0]
       | r :: _ => [r.seq, kindCode r.kind, outcomeCode r.outcome] ++ half (r.eff.getD 0)) ∧
     s.registerBytes (.counter .badMessages) = [s.bus.badMessages] ∧
     s.registerBytes (.counter .earlyStrobes) = [s.timer.earlyStrobes] ∧
     s.registerBytes (.counter .outOfWindow) = [s.sched.outOfWindow] ∧
     s.registerBytes (.events .fault) = [bit s.events.fault] ∧
     s.registerBytes (.events .wall) = [bit s.events.wall.stateChanged ||| (bit s.events.wall.rosterChanged <<< 1) |||
       (bit s.events.wall.resyncStarted <<< 2) ||| (bit s.events.wall.snapshotAbandoned <<< 3) |||
       (bit s.events.wall.commandRefused <<< 4) ||| (bit s.events.wall.writeIgnored <<< 5)] ∧
     s.registerBytes (.events .service) = [bit s.events.service.presenceChanged ||| (bit s.events.service.latchChanged <<< 1) |||
       (bit s.events.service.buttonPressed <<< 2) ||| (bit s.events.service.powerFault <<< 3) |||
       (bit s.events.service.serviceDone <<< 4) ||| (bit s.events.service.serviceBusy <<< 5)] ∧
     s.registerBytes (.events .frame) = [bit s.events.frame.frameStarted ||| (bit s.events.frame.recordsApplied <<< 1) |||
       (bit s.events.frame.cursorTileChanged <<< 2) ||| (bit s.events.frame.viewOverflow <<< 3)] ∧
     s.registerBytes .irqEnable = [bit s.events.enables.fault ||| (bit s.events.enables.wall <<< 1) |||
       (bit s.events.enables.receipt <<< 2) ||| (bit s.events.enables.service <<< 3) ||| (bit s.events.enables.frame <<< 4)]) ∧
  ((stationCode .offline = 0 ∧ stationCode .listening = 1 ∧ stationCode .joining = 2 ∧ stationCode .member = 3 ∧
       stationCode .leaving = 4 ∧ stationCode .fault = 5 ∧ stationCode .loopback = 6) ∧
     (faultCode .none = 0 ∧ faultCode .strap = 1 ∧ faultCode .positionInUse = 2 ∧ faultCode .collision = 3 ∧ faultCode .geometry = 4) ∧
     (joinCode .none = 0 ∧ joinCode .new = 1 ∧ joinCode .resync = 2) ∧
     (causeCode .none = 0 ∧ causeCode .gap = 1 ∧ causeCode .frame = 2 ∧ causeCode .readback = 3 ∧ causeCode .merge = 4) ∧
     (entryCode .absent = 0 ∧ entryCode .joining = 1 ∧ entryCode .member = 2 ∧ entryCode .leaving = 3) ∧
     (readbackCode .none = 0 ∧ readbackCode .success = 1 ∧ readbackCode .failure = 2) ∧
     (outcomeCode .applied = 1 ∧ outcomeCode .rejectedOrder = 2 ∧ outcomeCode .rejectedConflict = 3 ∧ outcomeCode .rejectedField = 4 ∧
       outcomeCode .discardedFull = 5 ∧ outcomeCode .notSent = 6 ∧ outcomeCode .uncertain = 7) ∧
     (refusalCode .none = 0 ∧ refusalCode .state = 1 ∧ refusalCode .invalid = 2 ∧ refusalCode .queueFull = 3 ∧
       refusalCode .noCredit = 4 ∧ pathCode .none = 0 ∧ pathCode .stage = 1 ∧ pathCode .palette = 2 ∧ pathCode .cursor = 3) ∧
     (∀ m n, showCode (.stopped m) = 0 ∧ showCode .running = 1 ∧ showCode .held = 2 ∧ showCode (.paced n) = 3) ∧
     (collectionCode .idle = 0 ∧ collectionCode .waiting = 1 ∧ collectionCode .collecting = 2) ∧
     (powerCode .off = 0 ∧ powerCode .rising = 1 ∧ powerCode .on = 2 ∧ powerCode .falling = 3 ∧ powerCode .fault = 4) ∧
     (ledCode .off = 0 ∧ ledCode .on = 1 ∧ ledCode .blink = 2) ∧
     (serviceCommandCode .none = 0 ∧ serviceCommandCode .powerOn = 1 ∧ serviceCommandCode .powerOff = 2) ∧
     (serviceOutcomeCode .none = 0 ∧ serviceOutcomeCode .doneOn = 1 ∧ serviceOutcomeCode .doneOff = 2 ∧
       serviceOutcomeCode .doneHeld = 3 ∧ serviceOutcomeCode .doneFault = 4 ∧ serviceOutcomeCode .doneLed = 5) ∧
     (wordCode .null = 0 ∧ wordCode .start = 1 ∧ wordCode .hold = 2 ∧ wordCode .advance = 3 ∧ wordCode .resume = 4 ∧
       wordCode .stopKeep = 5 ∧ wordCode .stopBlank = 6)) ∧
  (∀ (s : State) (index : BitVec 7) (n : Nat),
     (registerAt index = none → readDataByte index s n = 0) ∧
     (∀ k, registerAt index = some (.stage k) → readDataByte index s n = s.sub.stage[k.val + n]?.getD 0) ∧
     (registerAt index = some .palData → readDataByte index s n =
       (match s.sub.palRead.pointer with
       | .red => s.sub.palRead.held.r
       | .green => s.sub.palRead.held.g
       | .blue => s.sub.palRead.held.b)) ∧
     (registerAt index = some .cursorData → readDataByte index s n = s.sub.curRead.held[s.sub.curRead.pointer]) ∧
     ∀ r, registerAt index = some r → r ≠ .palData → r ≠ .cursorData → (∀ k, r ≠ .stage k) →
       (s.registerBytes r).length = widthOf r ∧ (n < widthOf r → (s.registerBytes r)[n]? = some (readDataByte index s n)) ∧
       (widthOf r ≤ n → readDataByte index s n = 0))

/-- The register map and the access classes (R178, R179, R180, R170, Table 13-8): which writes are ignored, which command each data byte of
a write or a read transaction is, and the data bytes that are none. -/
def Obligations.RegisterMapNamesCommands : Prop :=
  (∀ (index : BitVec 7) (before : List Byte) (v : Byte),
     (writeIgnoredAt index = true ↔
       ¬((0x20 ≤ index.toNat ∧ index.toNat ≤ 0x22) ∨ index.toNat = 0x28 ∨ index.toNat = 0x29 ∨
         (0x30 ≤ index.toNat ∧ index.toNat ≤ 0x34) ∨ (0x40 ≤ index.toNat ∧ index.toNat ≤ 0x4D))) ∧
     (writeIgnoredAt index = true → writeCommand index before v = some (.ignoredWrite index v)) ∧
     (before.length < 4 → writeCommand 0x20 before v = some (.configWrite .tile (before ++ [v]))) ∧
     (4 ≤ before.length → writeCommand 0x20 before v = none) ∧
     (before.length < 5 → writeCommand 0x21 before v = some (.configWrite .wall (before ++ [v]))) ∧
     (5 ≤ before.length → writeCommand 0x21 before v = none) ∧
     (before = [] → writeCommand 0x22 before v = some (.irqEnableWrite v)) ∧ (before ≠ [] → writeCommand 0x22 before v = none) ∧
     (v.extractLsb' 0 2 = 1 → writeCommand 0x29 before v = some (.powerOn (v.extractLsb' 2 3))) ∧
     (v.extractLsb' 0 2 = 2 → writeCommand 0x29 before v = some (.powerOff (v.extractLsb' 2 3))) ∧
     (v.extractLsb' 0 2 = 0 ∨ v.extractLsb' 0 2 = 3 → writeCommand 0x29 before v = some (.serviceLed (v.extractLsb' 2 3))) ∧
     writeCommand 0x30 before v = some (.palIndexWrite v) ∧ writeCommand 0x31 before v = some (.palDataWrite v) ∧
     writeCommand 0x32 before v = some (.palReadIndexWrite v) ∧ writeCommand 0x33 before v = some (.cursorRowIndexWrite v) ∧
     writeCommand 0x34 before v = some (.cursorDataWrite v) ∧
     ∀ k : Fin 14, index.toNat = 0x40 + k.val → writeCommand index before v = some (.stageWrite k before.length v)) ∧
  (∀ (index : BitVec 7) (n : Nat),
     readCommand 0x31 n = some .palDataRead ∧ readCommand 0x34 n = some .cursorDataRead ∧
     readCommand 0x2A 0 = some .receiptRead ∧ readCommand 0x05 0 = some .submitStatusRead ∧
     readCommand 0x11 0 = some (.eventSetRead .fault) ∧ readCommand 0x12 0 = some (.eventSetRead .wall) ∧
     readCommand 0x13 0 = some (.eventSetRead .service) ∧ readCommand 0x14 0 = some (.eventSetRead .frame) ∧
     readCommand 0x18 0 = some (.counterRead .badMessages) ∧ readCommand 0x19 0 = some (.counterRead .earlyStrobes) ∧
     readCommand 0x1A 0 = some (.counterRead .outOfWindow) ∧
     (0 < n → index ≠ 0x31 → index ≠ 0x34 → readCommand index n = none) ∧
     (index.toNat ∉ [0x05, 0x11, 0x12, 0x13, 0x14, 0x18, 0x19, 0x1A, 0x2A, 0x31, 0x34] → readCommand index n = none))

/-- A transaction on the pins of the control port (R177). While SPI_CS_N is high, and after a pin reset until the next fall, clocked bits
are ignored and SPI_MISO is released. The fall begins a transaction; eight bits, high bit first, are the index byte, bit 7 READ; a WRITE
takes each data byte as its command when it is whole, and ignores a byte that is none, while SPI_MISO drives 0; a READ is taken at the
eighth bit of the index byte, before any data byte, and SPI_MISO shows the byte returned then and, at a register whose data bytes are not
reads of their own, the bytes after it, high bit first, with no further effect. A byte cut off by the rise of SPI_CS_N is discarded, and the
port is IDLE. The model's choices (log 32): SPI_MISO drives 0 during the index byte, and after a pin reset it stays released while SPI_CS_N
of the discarded transaction is still low. -/
def Obligations.SpiTransactionTakesCommands : Prop :=
  (∀ s : State,
     (s.port.selected = false → s.miso = none ∧ ∀ b, s.spiClock b = s) ∧
     (∀ pins t, exec (.pinReset pins) s = .next t → t.miso = none ∧ ∀ bits : List Bool, bits.foldl (fun u b => u.spiClock b) t = t) ∧
     (∀ bits : List Bool, s.port.transaction = none → s.port.shift = [] → s.port.selected = true → bits.length < 8 →
       exec .spiTransactionEnd (bits.foldl (fun u b => u.spiClock b) s) = exec .spiTransactionEnd s)) ∧
  (∀ (s : State) (index : BitVec 7) (v : Byte),
     let w := s.spiSelect.spiShift (0#1 ++ index)
     w = { s with port := { selected := true, transaction := some ⟨false, index, 0⟩, shift := [], data := [], out := [] } } ∧
     w.miso = some false ∧
     ∀ (u : State) (before : List Byte) (n : Nat),
       u.port = { selected := true, transaction := some ⟨false, index, n⟩, shift := [], data := before, out := [] } →
       (∀ c, writeCommand index before v = some c → ∃ x, exec c u = .next x ∧ u.spiShift v = { x with port.data := before ++ [v] }) ∧
       (writeCommand index before v = none →
         u.spiShift v = { u with port.transaction := some ⟨false, index, n + 1⟩, port.data := before ++ [v] }) ∧
       ∀ bits : List Bool, bits.length < 8 →
         (bits.foldl (fun u b => u.spiClock b) u).miso = some false ∧
         exec .spiTransactionEnd (bits.foldl (fun u b => u.spiClock b) u) = exec .spiTransactionEnd u) ∧
  (∀ (s : State) (index : BitVec 7),
     let p : Port := { selected := true, transaction := some ⟨true, index, 0⟩, shift := [], data := [], out := [] }
     let r := s.spiSelect.spiShift (1#1 ++ index)
     (∀ c, readCommand index 0 = some c → exec c { s with port := p } = .next r) ∧
     (readCommand index 0 = none → r = { s with port := { p with transaction := some ⟨true, index, 1⟩, out := s.readBytes index } }) ∧
     (∀ bits : List Bool, bits.length < 8 →
       (bits.foldl (fun u b => u.spiClock b) r).miso = some ((readDataByte index s 0).getMsbD bits.length)) ∧
     ∀ (bytes : List Byte) (bits : List Bool), readsEachByte index = false → bits.length < 8 →
       let u := bits.foldl (fun u b => u.spiClock b) (bytes.foldl (fun u b => u.spiShift b) r)
       u.miso = some ((readDataByte index s bytes.length).getMsbD bits.length) ∧
         exec .spiTransactionEnd u = exec .spiTransactionEnd r)

/-! ### Panel service -/

/-- The raw lines (R163): the debounce timer starts from zero at a change away from the debounced value and stops on the return to it; a
line already at the level does not change. At the end of a debounce, presence and latch judge the power condition again (R163, R165, R166,
R167, R169): power in OFF rises when it holds and stays OFF otherwise, and power in RISING or ON falls, at once to OFF while power good is
low, where a pending POWER_ON completes with DONE_HELD (R171). That RISING with power good already high goes to FALLING is log 24. That the
loss goes to OFF also when a power good arriving with it is taken after it is the model's choice (log 34). A press of the button (R163,
R174, R52): BUTTON_PRESSED, and with auto-leave in MEMBER, LISTENING and JOINING all that LEAVE does (R48, R49: the leave frame, the end of
a stream), shown on the LED; without it, and in the other states, nothing more. That a BLINK already shown keeps its phase is log 14. A
release of the button is no event and has no further effect (R163). -/
def Obligations.PanelInputsPowerAndButton : Prop :=
  ((∀ (p : PanelInput) (level : Bool) (s : State),
      ∃ t, exec (.panelLineChange p level) s = .next t ∧
        (level = (s.svc.input p).raw → t = s) ∧
        (level ≠ (s.svc.input p).raw → (t.svc.input p).raw = level ∧ (t.svc.input p).value = (s.svc.input p).value ∧
          (t.svc.input p).timer = if level = (s.svc.input p).value then none else some 0) ∧
        t = { s with svc := s.svc.setInput p (t.svc.input p) }) ∧
   (∀ (p : PanelInput) (s : State), PanelInv s → p ≠ .button → (s.svc.input p).timer.isSome = true →
      ∃ t, exec (.debounceExpiry p) s = .next t ∧
        (t.svc.input p).value = (s.svc.input p).raw ∧ (t.svc.input p).timer = none ∧
        (p = .presence → t.events.service.presenceChanged = true ∧ t.events.service.latchChanged = s.events.service.latchChanged) ∧
        (p = .latch → t.events.service.latchChanged = true ∧ t.events.service.presenceChanged = s.events.service.presenceChanged) ∧
        t = { s with svc := t.svc, comp.showing := t.comp.showing, events.service := t.events.service } ∧
        t.svc = { s.svc.setInput p (t.svc.input p) with
          power := t.svc.power, powerTimer := t.svc.powerTimer, command := t.svc.command, outcome := t.svc.outcome } ∧
        let holds := t.svc.request = true ∧ t.svc.presence.value = true ∧ t.svc.latch.value = true
        (s.svc.power = .off → holds → t.svc.power = .rising ∧ t.svc.powerTimer = some 0 ∧ pwrEn t.svc = true) ∧
        (s.svc.power = .off → ¬holds → t.svc.power = .off ∧ t.svc.powerTimer = none ∧ pwrEn t.svc = false) ∧
        (s.svc.power = .on ∨ s.svc.power = .rising →
          t.svc.power = (if s.svc.pgood then .falling else .off) ∧ t.svc.powerTimer = (if s.svc.pgood then some 0 else none) ∧
          pwrEn t.svc = false) ∧
        (s.svc.power = .falling ∨ s.svc.power = .fault → t.svc.power = s.svc.power ∧ t.svc.powerTimer = s.svc.powerTimer) ∧
        (let held := s.svc.power = .rising ∧ s.svc.pgood = false ∧ s.svc.command = .powerOn
         t.svc.command = (if held then .none else s.svc.command) ∧ t.svc.outcome = (if held then .doneHeld else s.svc.outcome) ∧
         t.events.service.serviceDone = (s.events.service.serviceDone || decide held)) ∧
        t.events.service.buttonPressed = s.events.service.buttonPressed ∧
        t.events.service.powerFault = s.events.service.powerFault ∧ t.events.service.serviceBusy = s.events.service.serviceBusy ∧
        t.comp.showing = false)) ∧
  (∀ s : State, s.svc.button = ⟨true, false, s.svc.button.timer⟩ → s.svc.button.timer.isSome = true →
     ∃ t, exec (.debounceExpiry .button) s = .next t ∧ t.svc.button = ⟨true, true, none⟩ ∧
       t.events.service.buttonPressed = true ∧ t.events.wall.commandRefused = s.events.wall.commandRefused ∧
       t.svc.power = s.svc.power ∧
       (s.cfg.autoLeave = false ∨ s.ctl.state = .offline ∨ s.ctl.state = .leaving ∨ s.ctl.state = .fault ∨
           s.ctl.state = .loopback →
         t = { s with svc.button := ⟨true, true, none⟩, events.service.buttonPressed := true }) ∧
       (s.cfg.autoLeave = true → s.ctl.state = .member ∨ s.ctl.state = .listening ∨ s.ctl.state = .joining →
         ∃ w, exec .leave s = .next w ∧
           t = { w with
             port := s.port
             ctl.requestedLeave := decide (s.ctl.state = .member)
             svc := { s.svc with
               button := ⟨true, true, none⟩
               led := if s.ctl.state = .member then .blink else .on
               blinkHigh := if s.svc.led = .blink then s.svc.blinkHigh else true
               blinkElapsed := if s.svc.led = .blink then s.svc.blinkElapsed else 0
               follow := decide (s.ctl.state = .member) }
             events.service.buttonPressed := true }) ∧
       (s.cfg.autoLeave = true → s.ctl.state = .member →
         t.ctl.state = .leaving ∧ t.snap.streaming = false ∧ t.events.wall.stateChanged = true ∧
         t.ctl.leaveFrame = some (if s.timer.ownOpened then s.timer.frame + 1 + s.cfg.lead.setWidth 16
           else s.timer.frame + s.cfg.lead.setWidth 16)) ∧
       (s.cfg.autoLeave = true → s.ctl.state = .listening ∨ s.ctl.state = .joining →
         t.ctl.state = .offline ∧ t.sched.list = [] ∧ t.sub = s.subCleared)) ∧
  (∀ s : State, s.svc.button = ⟨false, true, s.svc.button.timer⟩ → s.svc.button.timer.isSome = true →
     exec (.debounceExpiry .button) s = .next { s with svc.button := ⟨false, false, none⟩ })

/-- POWER_ON and POWER_OFF with no command pending, by the power state (R168, R170, R171, R172; that a POWER_OFF in RISING with power good
already high goes to FALLING is log 24; that one taken before a power good that arrives with it goes to OFF is the model's choice, log 34).
The LED field of a service command (R170, R173): accepted, it sets the LED and clears the follow flag; a command without a power field
completes at once with DONE_LED; while a power command is pending the whole write is ignored with SERVICE_BUSY. -/
def Obligations.ServiceCommands : Prop :=
  ((∀ (led : BitVec 3) (s : State), s.svc.command = .none →
      ∃ t, exec (.powerOn led) s = .next t ∧ t.svc.request = true ∧
        (s.svc.power = .off → s.svc.presence.value = true → s.svc.latch.value = true →
          t.svc.power = .rising ∧ t.svc.powerTimer = some 0 ∧ t.svc.command = .powerOn ∧ t.svc.outcome = s.svc.outcome ∧
          t.events = s.events ∧ pwrEn t.svc = true) ∧
        (s.svc.power = .off → s.svc.presence.value = false ∨ s.svc.latch.value = false →
          t.svc.power = .off ∧ t.svc.command = .none ∧ t.svc.outcome = .doneHeld ∧ t.events.service.serviceDone = true) ∧
        (s.svc.power = .on → s.svc.presence.value = true → s.svc.latch.value = true →
          t.svc.power = .on ∧ t.svc.command = .none ∧ t.svc.outcome = .doneOn ∧ t.events.service.serviceDone = true) ∧
        (s.svc.power = .falling → t.svc.power = .falling ∧ t.svc.command = .powerOn ∧ t.svc.powerTimer = s.svc.powerTimer ∧
          t.events = s.events) ∧
        (s.svc.power = .fault → t.svc.power = .fault ∧ t.svc.command = .none ∧ t.svc.outcome = .doneFault ∧
          t.events.service.serviceDone = true ∧ t.events.service.powerFault = s.events.service.powerFault) ∧
        (s.svc.power = .rising → s.svc.presence.value = true → s.svc.latch.value = true →
          t.svc.power = .rising ∧ t.svc.powerTimer = s.svc.powerTimer ∧ t.svc.command = .powerOn ∧ t.events = s.events) ∧
        t = { s.portWrite 0x29 with svc := t.svc, comp.showing := t.comp.showing, events.service := t.events.service } ∧
        t.svc.presence = s.svc.presence ∧ t.svc.latch = s.svc.latch ∧ t.svc.button = s.svc.button ∧ t.svc.pgood = s.svc.pgood) ∧
   (∀ (led : BitVec 3) (s : State), PanelInv s → s.svc.command = .none →
      ∃ t, exec (.powerOff led) s = .next t ∧ t.svc.request = false ∧
        (s.svc.power = .off ∨ (s.svc.power = .rising ∧ s.svc.pgood = false) ∨ s.svc.power = .fault ∨
            (s.svc.power = .on ∧ s.svc.pgood = false) →
          t.svc.power = .off ∧ t.svc.powerTimer = none ∧ t.svc.command = .none ∧ t.svc.outcome = .doneOff ∧
          t.events.service.serviceDone = true) ∧
        (s.svc.power = .on ∨ s.svc.power = .rising → s.svc.pgood = true →
          t.svc.power = .falling ∧ t.svc.powerTimer = some 0 ∧ t.svc.command = .powerOff ∧ t.svc.outcome = s.svc.outcome ∧
          t.events = s.events) ∧
        (s.svc.power = .falling → t.svc.power = .falling ∧ t.svc.command = .powerOff ∧ t.svc.powerTimer = s.svc.powerTimer ∧
          t.events = s.events) ∧
        t.comp.showing = false ∧ pwrEn t.svc = false ∧
        t = { s.portWrite 0x29 with svc := t.svc, comp.showing := t.comp.showing, events.service := t.events.service } ∧
        t.svc.presence = s.svc.presence ∧ t.svc.latch = s.svc.latch ∧ t.svc.button = s.svc.button ∧ t.svc.pgood = s.svc.pgood)) ∧
  (∀ (led : BitVec 3) (s : State),
     (∀ state, (led = 1 ∧ state = LedState.off) ∨ (led = 2 ∧ state = LedState.on) ∨ (led = 3 ∧ state = LedState.blink) →
       s.svc.command = .none →
       (∃ t, exec (.serviceLed led) s = .next t ∧ t.svc.led = state ∧ t.svc.follow = false ∧ t.svc.outcome = .doneLed ∧
         t.events = { s.events with service.serviceDone := true } ∧ t.svc.power = s.svc.power ∧ t.svc.command = .none ∧
         (state = .blink → s.svc.led ≠ .blink → ledLine t.svc = true) ∧ (state = .on → ledLine t.svc = true) ∧
         (state = .off → ledLine t.svc = false)) ∧
       (∃ t, exec (.powerOn led) s = .next t ∧ t.svc.led = state ∧ t.svc.follow = false) ∧
       ∃ t, exec (.powerOff led) s = .next t ∧ t.svc.led = state ∧ t.svc.follow = false) ∧
     (led = 0 ∨ 4 ≤ led.toNat → exec (.serviceLed led) s = .next (s.portWrite 0x29)) ∧
     (s.svc.command ≠ .none →
       exec (.powerOn led) s = .next { s.portWrite 0x29 with events.service.serviceBusy := true } ∧
       exec (.powerOff led) s = .next { s.portWrite 0x29 with events.service.serviceBusy := true } ∧
       (led = 1 ∨ led = 2 ∨ led = 3 →
         exec (.serviceLed led) s = .next { s.portWrite 0x29 with events.service.serviceBusy := true })))

/-- Power good, its loss and the power timer (R164, R166, R167, R168, R169, R171, R172). A loss in FALLING goes to OFF, and on to RISING
with the timer from 0 and a POWER_ON still pending when the condition holds there; when it does not, a pending command completes, POWER_ON
with DONE_HELD and POWER_OFF with DONE_OFF. The model's choices: a POWER_TIMER_EXPIRY outside RISING and FALLING, where the timer does not
run, changes nothing (log 3), and a POWER_GOOD or POWER_GOOD_LOST is taken as an edge whatever level the line showed before (log 30); one
taken after a loss in RISING that arrived with it finds OFF (log 34). -/
def Obligations.PowerSupplyEvents : Prop :=
  ∀ s : State, PanelInv s →
    ∃ g l x, exec .powerGood s = .next g ∧ exec .powerGoodLost s = .next l ∧ exec .powerTimerExpiry s = .next x ∧
      g.svc.pgood = true ∧ l.svc.pgood = false ∧
      (s.svc.power = .rising → g.svc.power = .on ∧ g.svc.powerTimer = none ∧ g.svc.command = .none ∧
        (s.svc.command = .powerOn → g.svc.outcome = .doneOn ∧ g.events.service.serviceDone = true)) ∧
      (s.svc.power ≠ .rising → g = { s with svc.pgood := true, comp.showing := s.comp.showing && s.svc.power == .on }) ∧
      (s.svc.power = .on → l.svc.power = .fault ∧ l.events.service.powerFault = true ∧ l.comp.showing = false ∧
        pwrEn l.svc = false ∧ l.svc.powerTimer = none ∧ l.svc.request = s.svc.request) ∧
      (s.svc.power = .falling → s.svc.request = true ∧ s.svc.presence.value = true ∧ s.svc.latch.value = true →
        l.svc = { s.svc with pgood := false, power := .rising, powerTimer := some 0 } ∧ l.events = s.events ∧ pwrEn l.svc = true) ∧
      (s.svc.power = .falling → ¬(s.svc.request = true ∧ s.svc.presence.value = true ∧ s.svc.latch.value = true) →
        l.svc = { s.svc with
          pgood := false, power := .off, powerTimer := none, command := .none
          outcome := match s.svc.command with
            | .none => s.svc.outcome
            | .powerOn => .doneHeld
            | .powerOff => .doneOff } ∧
        l.events = { s.events with
          service.serviceDone := s.events.service.serviceDone || decide (s.svc.command ≠ .none) }) ∧
      (s.svc.power = .off ∨ s.svc.power = .rising ∨ s.svc.power = .fault →
        l.svc = { s.svc with pgood := false } ∧ l.events = s.events) ∧
      (s.svc.power = .rising ∨ s.svc.power = .falling →
        x.svc.power = .fault ∧ x.svc.powerTimer = none ∧ x.events.service.powerFault = true ∧ pwrEn x.svc = false ∧
        x.svc.command = .none ∧
        (s.svc.command ≠ .none → x.svc.outcome = .doneFault ∧ x.events.service.serviceDone = true)) ∧
      (s.svc.power ≠ .rising → s.svc.power ≠ .falling → x = s) ∧
      ∀ t, t = g ∨ t = l ∨ t = x →
        t = { s with svc := t.svc, comp.showing := t.comp.showing, events.service := t.events.service } ∧
        t.svc.presence = s.svc.presence ∧ t.svc.latch = s.svc.latch ∧ t.svc.button = s.svc.button ∧ t.svc.led = s.svc.led

/-! ### Invariants -/

/-- The reset state satisfies every invariant. -/
def Obligations.InvariantsHoldAtReset : Prop :=
  ConfigInv State.reset ∧ ListInv State.reset ∧ CreditInv State.reset ∧ ShowInv State.reset ∧ ViewInv State.reset ∧
    PanelInv State.reset ∧ StationInv State.reset ∧ ComposeInv State.reset

/-- Every step keeps the configuration in range (R179) and the service controller's law, in which the enable is asserted only with request
ON, panel present and latch closed (R163, R165 to R167, R170, R172). -/
def Obligations.StepKeepsConfigAndPowerLaw : Prop :=
  (∀ s t : State, ConfigInv s → step s = .next t → ConfigInv t) ∧
  (∀ s t : State, PanelInv s → step s = .next t → PanelInv t)

/-- Every step keeps the pending list within 48 records, never two of one origin and sequence number (R81). -/
def Obligations.StepKeepsPendingListBounded : Prop :=
  ∀ s t : State, ListInv s → step s = .next t → ListInv t

/-- Every step keeps the credit law: outbound records, own in-flight records and unread receipts together never exceed 16, and the queue
holds at most 8 (R78, R72, R76). -/
def Obligations.StepKeepsCreditLaw : Prop :=
  ∀ s t : State, CreditInv s → step s = .next t → CreditInv t

/-- Every step keeps the show state legal, a pace factor of 2 to 8 with a countdown from 1 to it, and a countdown of 0 otherwise; and the
view list within four entries, its overflow flag true to the count, and windows hidden just in STOPPED with BLANK (R150, R152, R155). -/
def Obligations.StepKeepsShowAndViewLaw : Prop :=
  (∀ s t : State, ShowInv s → step s = .next t → ShowInv t) ∧
  (∀ s t : State, ViewInv s → step s = .next t → ViewInv t)

/-- Every step keeps the compositor true to the objects: the view list, the qualifying count and the overflow flag are what the live windows
give on the tile rectangle in force, the cursor placement and the cursor-on-tile flag what the live cursor gives on it (R149, R150, R152,
R153, R157, R158), and in MEMBER, LEAVING and LOOPBACK that rectangle is the one of the straps and CONFIG_TILE (R149). -/
def Obligations.StepKeepsComposition : Prop :=
  ∀ s t : State, ComposeInv s → step s = .next t → ComposeInv t

/-- Every step keeps what the station state fixes in the other blocks (R1, R14, R16, R18, R22, R33, R34, R49, R53, R133, R135, R136, R159).
-/
def Obligations.StepKeepsStationLaw : Prop :=
  ∀ s t : State, StationInv s → step s = .next t → StationInv t

end Statements
end

