-- ==== Sys2Proof/Laws/State.lean ====
section
/-! SUPPORT. Which blocks each operation leaves unchanged: the shared operations of Flags and Ops. One lemma per operation. -/

namespace Sys2Proof.Machine

@[simp] theorem State.raiseFaultEntered_keeps (s : State) :
    (s.raiseFaultEntered).straps = s.straps ∧ (s.raiseFaultEntered).cfg = s.cfg ∧ (s.raiseFaultEntered).bus = s.bus ∧
      (s.raiseFaultEntered).timer = s.timer ∧ (s.raiseFaultEntered).ctl = s.ctl ∧ (s.raiseFaultEntered).roster = s.roster ∧
      (s.raiseFaultEntered).sub = s.sub ∧ (s.raiseFaultEntered).sched = s.sched ∧ (s.raiseFaultEntered).obj = s.obj ∧
      (s.raiseFaultEntered).shows = s.shows ∧ (s.raiseFaultEntered).snap = s.snap ∧ (s.raiseFaultEntered).comp = s.comp ∧
      (s.raiseFaultEntered).svc = s.svc ∧ (s.raiseFaultEntered).port = s.port ∧ (s.raiseFaultEntered).pending = s.pending := by
  refine ⟨?_, ?_, ?_, ?_, ?_, ?_, ?_, ?_, ?_, ?_, ?_, ?_, ?_, ?_, ?_⟩ <;> rfl

@[simp] theorem State.raiseStateChanged_keeps (s : State) :
    (s.raiseStateChanged).straps = s.straps ∧ (s.raiseStateChanged).cfg = s.cfg ∧ (s.raiseStateChanged).bus = s.bus ∧
      (s.raiseStateChanged).timer = s.timer ∧ (s.raiseStateChanged).ctl = s.ctl ∧ (s.raiseStateChanged).roster = s.roster ∧
      (s.raiseStateChanged).sub = s.sub ∧ (s.raiseStateChanged).sched = s.sched ∧ (s.raiseStateChanged).obj = s.obj ∧
      (s.raiseStateChanged).shows = s.shows ∧ (s.raiseStateChanged).snap = s.snap ∧ (s.raiseStateChanged).comp = s.comp ∧
      (s.raiseStateChanged).svc = s.svc ∧ (s.raiseStateChanged).port = s.port ∧ (s.raiseStateChanged).pending = s.pending := by
  refine ⟨?_, ?_, ?_, ?_, ?_, ?_, ?_, ?_, ?_, ?_, ?_, ?_, ?_, ?_, ?_⟩ <;> rfl

@[simp] theorem State.raiseRosterChanged_keeps (s : State) :
    (s.raiseRosterChanged).straps = s.straps ∧ (s.raiseRosterChanged).cfg = s.cfg ∧ (s.raiseRosterChanged).bus = s.bus ∧
      (s.raiseRosterChanged).timer = s.timer ∧ (s.raiseRosterChanged).ctl = s.ctl ∧ (s.raiseRosterChanged).roster = s.roster ∧
      (s.raiseRosterChanged).sub = s.sub ∧ (s.raiseRosterChanged).sched = s.sched ∧ (s.raiseRosterChanged).obj = s.obj ∧
      (s.raiseRosterChanged).shows = s.shows ∧ (s.raiseRosterChanged).snap = s.snap ∧ (s.raiseRosterChanged).comp = s.comp ∧
      (s.raiseRosterChanged).svc = s.svc ∧ (s.raiseRosterChanged).port = s.port ∧ (s.raiseRosterChanged).pending = s.pending := by
  refine ⟨?_, ?_, ?_, ?_, ?_, ?_, ?_, ?_, ?_, ?_, ?_, ?_, ?_, ?_, ?_⟩ <;> rfl

@[simp] theorem State.raiseCommandRefused_keeps (s : State) :
    (s.raiseCommandRefused).straps = s.straps ∧ (s.raiseCommandRefused).cfg = s.cfg ∧ (s.raiseCommandRefused).bus = s.bus ∧
      (s.raiseCommandRefused).timer = s.timer ∧ (s.raiseCommandRefused).ctl = s.ctl ∧
      (s.raiseCommandRefused).roster = s.roster ∧ (s.raiseCommandRefused).sub = s.sub ∧
      (s.raiseCommandRefused).sched = s.sched ∧ (s.raiseCommandRefused).obj = s.obj ∧ (s.raiseCommandRefused).shows = s.shows ∧
      (s.raiseCommandRefused).snap = s.snap ∧ (s.raiseCommandRefused).comp = s.comp ∧ (s.raiseCommandRefused).svc = s.svc ∧
      (s.raiseCommandRefused).port = s.port ∧ (s.raiseCommandRefused).pending = s.pending := by
  refine ⟨?_, ?_, ?_, ?_, ?_, ?_, ?_, ?_, ?_, ?_, ?_, ?_, ?_, ?_, ?_⟩ <;> rfl

@[simp] theorem State.raiseWriteIgnored_keeps (s : State) :
    (s.raiseWriteIgnored).straps = s.straps ∧ (s.raiseWriteIgnored).cfg = s.cfg ∧ (s.raiseWriteIgnored).bus = s.bus ∧
      (s.raiseWriteIgnored).timer = s.timer ∧ (s.raiseWriteIgnored).ctl = s.ctl ∧ (s.raiseWriteIgnored).roster = s.roster ∧
      (s.raiseWriteIgnored).sub = s.sub ∧ (s.raiseWriteIgnored).sched = s.sched ∧ (s.raiseWriteIgnored).obj = s.obj ∧
      (s.raiseWriteIgnored).shows = s.shows ∧ (s.raiseWriteIgnored).snap = s.snap ∧ (s.raiseWriteIgnored).comp = s.comp ∧
      (s.raiseWriteIgnored).svc = s.svc ∧ (s.raiseWriteIgnored).port = s.port ∧ (s.raiseWriteIgnored).pending = s.pending := by
  refine ⟨?_, ?_, ?_, ?_, ?_, ?_, ?_, ?_, ?_, ?_, ?_, ?_, ?_, ?_, ?_⟩ <;> rfl

@[simp] theorem State.setEntry_keeps (k : Position) (e : Entry) (s : State) :
    (s.setEntry k e).straps = s.straps ∧ (s.setEntry k e).cfg = s.cfg ∧ (s.setEntry k e).bus = s.bus ∧
      (s.setEntry k e).timer = s.timer ∧ (s.setEntry k e).ctl = s.ctl ∧ (s.setEntry k e).sub = s.sub ∧
      (s.setEntry k e).sched = s.sched ∧ (s.setEntry k e).obj = s.obj ∧ (s.setEntry k e).shows = s.shows ∧
      (s.setEntry k e).snap = s.snap ∧ (s.setEntry k e).comp = s.comp ∧ (s.setEntry k e).svc = s.svc ∧
      (s.setEntry k e).port = s.port ∧ (s.setEntry k e).events = s.events ∧ (s.setEntry k e).pending = s.pending := by
  refine ⟨?_, ?_, ?_, ?_, ?_, ?_, ?_, ?_, ?_, ?_, ?_, ?_, ?_, ?_, ?_⟩ <;> rfl

@[simp] theorem State.addReceipts_keeps (rs : List Receipt) (s : State) :
    (s.addReceipts rs).straps = s.straps ∧ (s.addReceipts rs).cfg = s.cfg ∧ (s.addReceipts rs).bus = s.bus ∧
      (s.addReceipts rs).timer = s.timer ∧ (s.addReceipts rs).ctl = s.ctl ∧ (s.addReceipts rs).roster = s.roster ∧
      (s.addReceipts rs).sched = s.sched ∧ (s.addReceipts rs).obj = s.obj ∧ (s.addReceipts rs).shows = s.shows ∧
      (s.addReceipts rs).snap = s.snap ∧ (s.addReceipts rs).comp = s.comp ∧ (s.addReceipts rs).svc = s.svc ∧
      (s.addReceipts rs).port = s.port ∧ (s.addReceipts rs).events = s.events ∧ (s.addReceipts rs).pending = s.pending := by
  refine ⟨?_, ?_, ?_, ?_, ?_, ?_, ?_, ?_, ?_, ?_, ?_, ?_, ?_, ?_, ?_⟩ <;> rfl

@[simp] theorem State.clearPendingList_keeps (s : State) :
    (s.clearPendingList).straps = s.straps ∧ (s.clearPendingList).cfg = s.cfg ∧ (s.clearPendingList).bus = s.bus ∧
      (s.clearPendingList).timer = s.timer ∧ (s.clearPendingList).ctl = s.ctl ∧ (s.clearPendingList).roster = s.roster ∧
      (s.clearPendingList).obj = s.obj ∧ (s.clearPendingList).shows = s.shows ∧ (s.clearPendingList).snap = s.snap ∧
      (s.clearPendingList).comp = s.comp ∧ (s.clearPendingList).svc = s.svc ∧ (s.clearPendingList).port = s.port ∧
      (s.clearPendingList).events = s.events ∧ (s.clearPendingList).pending = s.pending := by
  refine ⟨?_, ?_, ?_, ?_, ?_, ?_, ?_, ?_, ?_, ?_, ?_, ?_, ?_, ?_⟩ <;> rfl

@[simp] theorem State.clearOutbound_keeps (s : State) :
    (s.clearOutbound).straps = s.straps ∧ (s.clearOutbound).cfg = s.cfg ∧ (s.clearOutbound).bus = s.bus ∧
      (s.clearOutbound).timer = s.timer ∧ (s.clearOutbound).ctl = s.ctl ∧ (s.clearOutbound).roster = s.roster ∧
      (s.clearOutbound).sched = s.sched ∧ (s.clearOutbound).obj = s.obj ∧ (s.clearOutbound).shows = s.shows ∧
      (s.clearOutbound).snap = s.snap ∧ (s.clearOutbound).comp = s.comp ∧ (s.clearOutbound).svc = s.svc ∧
      (s.clearOutbound).port = s.port ∧ (s.clearOutbound).events = s.events ∧ (s.clearOutbound).pending = s.pending := by
  refine ⟨?_, ?_, ?_, ?_, ?_, ?_, ?_, ?_, ?_, ?_, ?_, ?_, ?_, ?_, ?_⟩ <;> rfl

@[simp] theorem State.changeState_keeps (new : StationState) (s : State) :
    (s.changeState new).straps = s.straps ∧ (s.changeState new).cfg = s.cfg ∧ (s.changeState new).roster = s.roster ∧
      (s.changeState new).sub = s.sub ∧ (s.changeState new).sched = s.sched ∧ (s.changeState new).obj = s.obj ∧
      (s.changeState new).shows = s.shows ∧ (s.changeState new).svc = s.svc ∧ (s.changeState new).port = s.port ∧
      (s.changeState new).pending = s.pending := by
  refine ⟨?_, ?_, ?_, ?_, ?_, ?_, ?_, ?_, ?_, ?_⟩ <;> rfl

@[simp] theorem State.clearWallSide_keeps (s : State) :
    (s.clearWallSide).straps = s.straps ∧ (s.clearWallSide).cfg = s.cfg ∧ (s.clearWallSide).bus = s.bus ∧
      (s.clearWallSide).timer = s.timer ∧ (s.clearWallSide).obj = s.obj ∧ (s.clearWallSide).snap = s.snap ∧
      (s.clearWallSide).comp = s.comp ∧ (s.clearWallSide).svc = s.svc ∧ (s.clearWallSide).port = s.port ∧
      (s.clearWallSide).events = s.events ∧ (s.clearWallSide).pending = s.pending := by
  refine ⟨?_, ?_, ?_, ?_, ?_, ?_, ?_, ?_, ?_, ?_, ?_⟩ <;> rfl

@[simp] theorem State.enterOffline_keeps (s : State) :
    (s.enterOffline).straps = s.straps ∧ (s.enterOffline).cfg = s.cfg ∧ (s.enterOffline).obj = s.obj ∧
      (s.enterOffline).svc = s.svc ∧ (s.enterOffline).port = s.port ∧ (s.enterOffline).pending = s.pending := by
  refine ⟨?_, ?_, ?_, ?_, ?_, ?_⟩ <;> rfl

@[simp] theorem State.enterFault_keeps (reason : FaultReason) (s : State) :
    (s.enterFault reason).straps = s.straps ∧ (s.enterFault reason).cfg = s.cfg ∧ (s.enterFault reason).obj = s.obj ∧
      (s.enterFault reason).svc = s.svc ∧ (s.enterFault reason).port = s.port ∧ (s.enterFault reason).pending = s.pending := by
  refine ⟨?_, ?_, ?_, ?_, ?_, ?_⟩ <;> rfl

@[simp] theorem State.resync_keeps (cause : ResyncCause) (s : State) :
    (s.resync cause).straps = s.straps ∧ (s.resync cause).cfg = s.cfg ∧ (s.resync cause).roster = s.roster ∧
      (s.resync cause).sub = s.sub ∧ (s.resync cause).sched = s.sched ∧ (s.resync cause).obj = s.obj ∧
      (s.resync cause).svc = s.svc ∧ (s.resync cause).port = s.port ∧ (s.resync cause).pending = s.pending := by
  refine ⟨?_, ?_, ?_, ?_, ?_, ?_, ?_, ?_, ?_⟩ <;> rfl

@[simp] theorem State.adopt_keeps (f : Frame) (s : State) :
    (s.adopt f).straps = s.straps ∧ (s.adopt f).cfg = s.cfg ∧ (s.adopt f).bus = s.bus ∧ (s.adopt f).ctl = s.ctl ∧
      (s.adopt f).roster = s.roster ∧ (s.adopt f).sub = s.sub ∧ (s.adopt f).sched = s.sched ∧ (s.adopt f).obj = s.obj ∧
      (s.adopt f).shows = s.shows ∧ (s.adopt f).snap = s.snap ∧ (s.adopt f).comp = s.comp ∧ (s.adopt f).svc = s.svc ∧
      (s.adopt f).port = s.port ∧ (s.adopt f).events = s.events ∧ (s.adopt f).pending = s.pending := by
  refine ⟨?_, ?_, ?_, ?_, ?_, ?_, ?_, ?_, ?_, ?_, ?_, ?_, ?_, ?_, ?_⟩ <;> rfl

@[simp] theorem State.abandon_keeps (s : State) :
    (s.abandon).straps = s.straps ∧ (s.abandon).cfg = s.cfg ∧ (s.abandon).bus = s.bus ∧ (s.abandon).timer = s.timer ∧
      (s.abandon).ctl = s.ctl ∧ (s.abandon).roster = s.roster ∧ (s.abandon).sub = s.sub ∧ (s.abandon).sched = s.sched ∧
      (s.abandon).obj = s.obj ∧ (s.abandon).shows = s.shows ∧ (s.abandon).comp = s.comp ∧ (s.abandon).svc = s.svc ∧
      (s.abandon).port = s.port ∧ (s.abandon).pending = s.pending := by
  unfold State.abandon; try dsimp only
  all_goals (repeat' split)
  all_goals simp

@[simp] theorem State.refreshViews_keeps (s : State) :
    (s.refreshViews).straps = s.straps ∧ (s.refreshViews).cfg = s.cfg ∧ (s.refreshViews).bus = s.bus ∧
      (s.refreshViews).timer = s.timer ∧ (s.refreshViews).ctl = s.ctl ∧ (s.refreshViews).roster = s.roster ∧
      (s.refreshViews).sub = s.sub ∧ (s.refreshViews).sched = s.sched ∧ (s.refreshViews).obj = s.obj ∧
      (s.refreshViews).shows = s.shows ∧ (s.refreshViews).snap = s.snap ∧ (s.refreshViews).svc = s.svc ∧
      (s.refreshViews).port = s.port ∧ (s.refreshViews).pending = s.pending := by
  refine ⟨?_, ?_, ?_, ?_, ?_, ?_, ?_, ?_, ?_, ?_, ?_, ?_, ?_, ?_⟩ <;> rfl

@[simp] theorem State.refreshCursor_keeps (s : State) :
    (s.refreshCursor).straps = s.straps ∧ (s.refreshCursor).cfg = s.cfg ∧ (s.refreshCursor).bus = s.bus ∧
      (s.refreshCursor).timer = s.timer ∧ (s.refreshCursor).ctl = s.ctl ∧ (s.refreshCursor).roster = s.roster ∧
      (s.refreshCursor).sub = s.sub ∧ (s.refreshCursor).sched = s.sched ∧ (s.refreshCursor).obj = s.obj ∧
      (s.refreshCursor).shows = s.shows ∧ (s.refreshCursor).snap = s.snap ∧ (s.refreshCursor).svc = s.svc ∧
      (s.refreshCursor).port = s.port ∧ (s.refreshCursor).pending = s.pending := by
  refine ⟨?_, ?_, ?_, ?_, ?_, ?_, ?_, ?_, ?_, ?_, ?_, ?_, ?_, ?_⟩ <;> rfl

@[simp] theorem State.reportObjects_keeps (w : Bool) (c : Bool) (s : State) :
    (s.reportObjects w c).straps = s.straps ∧ (s.reportObjects w c).cfg = s.cfg ∧ (s.reportObjects w c).bus = s.bus ∧
      (s.reportObjects w c).timer = s.timer ∧ (s.reportObjects w c).ctl = s.ctl ∧ (s.reportObjects w c).roster = s.roster ∧
      (s.reportObjects w c).sub = s.sub ∧ (s.reportObjects w c).sched = s.sched ∧ (s.reportObjects w c).obj = s.obj ∧
      (s.reportObjects w c).shows = s.shows ∧ (s.reportObjects w c).snap = s.snap ∧ (s.reportObjects w c).svc = s.svc ∧
      (s.reportObjects w c).port = s.port ∧ (s.reportObjects w c).pending = s.pending := by
  unfold State.reportObjects; try dsimp only
  all_goals (repeat' split)
  all_goals simp

@[simp] theorem State.reportShow_keeps (s : State) :
    (s.reportShow).straps = s.straps ∧ (s.reportShow).cfg = s.cfg ∧ (s.reportShow).bus = s.bus ∧
      (s.reportShow).timer = s.timer ∧ (s.reportShow).ctl = s.ctl ∧ (s.reportShow).roster = s.roster ∧
      (s.reportShow).sub = s.sub ∧ (s.reportShow).sched = s.sched ∧ (s.reportShow).obj = s.obj ∧
      (s.reportShow).shows = s.shows ∧ (s.reportShow).snap = s.snap ∧ (s.reportShow).svc = s.svc ∧
      (s.reportShow).port = s.port ∧ (s.reportShow).events = s.events ∧ (s.reportShow).pending = s.pending := by
  refine ⟨?_, ?_, ?_, ?_, ?_, ?_, ?_, ?_, ?_, ?_, ?_, ?_, ?_, ?_, ?_⟩ <;> rfl

@[simp] theorem State.takeDefaults_keeps (s : State) :
    (s.takeDefaults).straps = s.straps ∧ (s.takeDefaults).cfg = s.cfg ∧ (s.takeDefaults).bus = s.bus ∧
      (s.takeDefaults).timer = s.timer ∧ (s.takeDefaults).ctl = s.ctl ∧ (s.takeDefaults).roster = s.roster ∧
      (s.takeDefaults).sub = s.sub ∧ (s.takeDefaults).sched = s.sched ∧ (s.takeDefaults).snap = s.snap ∧
      (s.takeDefaults).svc = s.svc ∧ (s.takeDefaults).port = s.port ∧ (s.takeDefaults).pending = s.pending := by
  unfold State.takeDefaults; try dsimp only
  simp

end Sys2Proof.Machine
end

