-- ==== Sys2Proof/Laws/FrameSchedule.lean ====
section
/-! SUPPORT. Which blocks each operation leaves unchanged: the schedule and the snapshot unit. One lemma per operation. -/

namespace Sys2Proof.Machine

@[simp] theorem State.discardRecord_keeps (r : HeldRecord) (s : State) :
    (s.discardRecord r).straps = s.straps ∧ (s.discardRecord r).cfg = s.cfg ∧ (s.discardRecord r).bus = s.bus ∧
      (s.discardRecord r).timer = s.timer ∧ (s.discardRecord r).ctl = s.ctl ∧ (s.discardRecord r).roster = s.roster ∧
      (s.discardRecord r).sched = s.sched ∧ (s.discardRecord r).obj = s.obj ∧ (s.discardRecord r).shows = s.shows ∧
      (s.discardRecord r).comp = s.comp ∧ (s.discardRecord r).svc = s.svc ∧ (s.discardRecord r).port = s.port ∧
      (s.discardRecord r).pending = s.pending := by
  unfold State.discardRecord; try dsimp only
  all_goals (repeat' split)
  all_goals simp

@[simp] theorem State.acceptRecord_keeps (r : HeldRecord) (s : State) :
    (s.acceptRecord r).straps = s.straps ∧ (s.acceptRecord r).cfg = s.cfg ∧ (s.acceptRecord r).bus = s.bus ∧
      (s.acceptRecord r).timer = s.timer ∧ (s.acceptRecord r).ctl = s.ctl ∧ (s.acceptRecord r).roster = s.roster ∧
      (s.acceptRecord r).obj = s.obj ∧ (s.acceptRecord r).shows = s.shows ∧ (s.acceptRecord r).comp = s.comp ∧
      (s.acceptRecord r).svc = s.svc ∧ (s.acceptRecord r).port = s.port ∧ (s.acceptRecord r).pending = s.pending := by
  unfold State.acceptRecord; try dsimp only
  all_goals (repeat' split)
  all_goals simp

@[simp] theorem State.frameWork_keeps (s : State) :
    (s.frameWork).straps = s.straps ∧ (s.frameWork).cfg = s.cfg ∧ (s.frameWork).bus = s.bus ∧ (s.frameWork).timer = s.timer ∧
      (s.frameWork).ctl = s.ctl ∧ (s.frameWork).roster = s.roster ∧ (s.frameWork).snap = s.snap ∧ (s.frameWork).svc = s.svc ∧
      (s.frameWork).port = s.port ∧ (s.frameWork).pending = s.pending := by
  unfold State.frameWork; try dsimp only
  all_goals (repeat' split)
  all_goals simp

@[simp] theorem State.dropUpTo_keeps (f : Frame) (s : State) :
    (s.dropUpTo f).straps = s.straps ∧ (s.dropUpTo f).cfg = s.cfg ∧ (s.dropUpTo f).bus = s.bus ∧
      (s.dropUpTo f).timer = s.timer ∧ (s.dropUpTo f).ctl = s.ctl ∧ (s.dropUpTo f).roster = s.roster ∧
      (s.dropUpTo f).obj = s.obj ∧ (s.dropUpTo f).shows = s.shows ∧ (s.dropUpTo f).snap = s.snap ∧
      (s.dropUpTo f).comp = s.comp ∧ (s.dropUpTo f).svc = s.svc ∧ (s.dropUpTo f).port = s.port ∧
      (s.dropUpTo f).events = s.events ∧ (s.dropUpTo f).pending = s.pending := by
  refine ⟨?_, ?_, ?_, ?_, ?_, ?_, ?_, ?_, ?_, ?_, ?_, ?_, ?_, ?_⟩ <;> rfl

@[simp] theorem State.dropHeld_keeps (s : State) :
    (s.dropHeld).straps = s.straps ∧ (s.dropHeld).cfg = s.cfg ∧ (s.dropHeld).bus = s.bus ∧ (s.dropHeld).timer = s.timer ∧
      (s.dropHeld).ctl = s.ctl ∧ (s.dropHeld).roster = s.roster ∧ (s.dropHeld).obj = s.obj ∧ (s.dropHeld).shows = s.shows ∧
      (s.dropHeld).snap = s.snap ∧ (s.dropHeld).comp = s.comp ∧ (s.dropHeld).svc = s.svc ∧ (s.dropHeld).port = s.port ∧
      (s.dropHeld).events = s.events ∧ (s.dropHeld).pending = s.pending := by
  refine ⟨?_, ?_, ?_, ?_, ?_, ?_, ?_, ?_, ?_, ?_, ?_, ?_, ?_, ?_⟩ <;> rfl

@[simp] theorem State.ageELost_keeps (s : State) :
    (s.ageELost).straps = s.straps ∧ (s.ageELost).cfg = s.cfg ∧ (s.ageELost).bus = s.bus ∧ (s.ageELost).timer = s.timer ∧
      (s.ageELost).ctl = s.ctl ∧ (s.ageELost).roster = s.roster ∧ (s.ageELost).sub = s.sub ∧ (s.ageELost).sched = s.sched ∧
      (s.ageELost).obj = s.obj ∧ (s.ageELost).shows = s.shows ∧ (s.ageELost).comp = s.comp ∧ (s.ageELost).svc = s.svc ∧
      (s.ageELost).port = s.port ∧ (s.ageELost).events = s.events ∧ (s.ageELost).pending = s.pending := by
  unfold State.ageELost; try dsimp only
  all_goals (repeat' split)
  all_goals simp

@[simp] theorem State.startStream_keeps (s : State) :
    (s.startStream).straps = s.straps ∧ (s.startStream).cfg = s.cfg ∧ (s.startStream).bus = s.bus ∧
      (s.startStream).timer = s.timer ∧ (s.startStream).ctl = s.ctl ∧ (s.startStream).roster = s.roster ∧
      (s.startStream).sub = s.sub ∧ (s.startStream).sched = s.sched ∧ (s.startStream).obj = s.obj ∧
      (s.startStream).shows = s.shows ∧ (s.startStream).comp = s.comp ∧ (s.startStream).svc = s.svc ∧
      (s.startStream).port = s.port ∧ (s.startStream).events = s.events ∧ (s.startStream).pending = s.pending := by
  unfold State.startStream; try dsimp only
  all_goals (repeat' split)
  all_goals simp

@[simp] theorem State.partSent_keeps (s : State) :
    (s.partSent).straps = s.straps ∧ (s.partSent).cfg = s.cfg ∧ (s.partSent).bus = s.bus ∧ (s.partSent).timer = s.timer ∧
      (s.partSent).ctl = s.ctl ∧ (s.partSent).roster = s.roster ∧ (s.partSent).sub = s.sub ∧ (s.partSent).sched = s.sched ∧
      (s.partSent).obj = s.obj ∧ (s.partSent).shows = s.shows ∧ (s.partSent).comp = s.comp ∧ (s.partSent).svc = s.svc ∧
      (s.partSent).port = s.port ∧ (s.partSent).events = s.events ∧ (s.partSent).pending = s.pending := by
  unfold State.partSent; try dsimp only
  all_goals (repeat' split)
  all_goals simp

@[simp] theorem State.judgePartZero_keeps (p : Position) (f : Frame) (i : Byte) (c : Byte) (d : List Byte) (s : State) :
    (s.judgePartZero p f i c d).straps = s.straps ∧ (s.judgePartZero p f i c d).cfg = s.cfg ∧
      (s.judgePartZero p f i c d).bus = s.bus ∧ (s.judgePartZero p f i c d).timer = s.timer ∧
      (s.judgePartZero p f i c d).ctl = s.ctl ∧ (s.judgePartZero p f i c d).roster = s.roster ∧
      (s.judgePartZero p f i c d).sub = s.sub ∧ (s.judgePartZero p f i c d).sched = s.sched ∧
      (s.judgePartZero p f i c d).obj = s.obj ∧ (s.judgePartZero p f i c d).shows = s.shows ∧
      (s.judgePartZero p f i c d).comp = s.comp ∧ (s.judgePartZero p f i c d).svc = s.svc ∧
      (s.judgePartZero p f i c d).port = s.port ∧ (s.judgePartZero p f i c d).events = s.events ∧
      (s.judgePartZero p f i c d).pending = s.pending := by
  unfold State.judgePartZero; try dsimp only
  all_goals (repeat' split)
  all_goals simp

@[simp] theorem State.writeImage_keeps (s : State) :
    (s.writeImage).straps = s.straps ∧ (s.writeImage).cfg = s.cfg ∧ (s.writeImage).bus = s.bus ∧
      (s.writeImage).timer = s.timer ∧ (s.writeImage).ctl = s.ctl ∧ (s.writeImage).roster = s.roster ∧
      (s.writeImage).sub = s.sub ∧ (s.writeImage).sched = s.sched ∧ (s.writeImage).snap = s.snap ∧
      (s.writeImage).comp = s.comp ∧ (s.writeImage).svc = s.svc ∧ (s.writeImage).port = s.port ∧
      (s.writeImage).events = s.events ∧ (s.writeImage).pending = s.pending := by
  simp [State.writeImage]

@[simp] theorem State.deferredApply_keeps (s : State) :
    (s.deferredApply).straps = s.straps ∧ (s.deferredApply).cfg = s.cfg ∧ (s.deferredApply).bus = s.bus ∧
      (s.deferredApply).timer = s.timer ∧ (s.deferredApply).ctl = s.ctl ∧ (s.deferredApply).roster = s.roster ∧
      (s.deferredApply).snap = s.snap ∧ (s.deferredApply).svc = s.svc ∧ (s.deferredApply).port = s.port ∧
      (s.deferredApply).pending = s.pending := by
  unfold State.deferredApply; try dsimp only
  simp

@[simp] theorem State.install_keeps (s : State) :
    (s.install).straps = s.straps ∧ (s.install).cfg = s.cfg ∧ (s.install).svc = s.svc ∧ (s.install).port = s.port ∧
      (s.install).pending = s.pending := by
  unfold State.install
  cases geometryMatches s.straps s.cfg s.snap.assembly <;> cases contentPasses s.geometry s.snap.assembly <;> simp

@[simp] theorem State.collectPart_keeps (d : List Byte) (s : State) :
    (s.collectPart d).straps = s.straps ∧ (s.collectPart d).cfg = s.cfg ∧ (s.collectPart d).svc = s.svc ∧
      (s.collectPart d).port = s.port ∧ (s.collectPart d).pending = s.pending := by
  by_cases h : s.snap.nextExpected < 18 <;> simp [State.collectPart, h]

@[simp] theorem State.takePart_keeps (p : Position) (f : Frame) (i : Byte) (c : Byte) (d : List Byte) (s : State) :
    (s.takePart p f i c d).straps = s.straps ∧ (s.takePart p f i c d).cfg = s.cfg ∧ (s.takePart p f i c d).svc = s.svc ∧
      (s.takePart p f i c d).port = s.port ∧ (s.takePart p f i c d).pending = s.pending := by
  unfold State.takePart
  cases s.snap.coll <;> cases s.partContinues f i c d <;> by_cases h : p = s.snap.collSource <;> simp [h]

end Sys2Proof.Machine
end

