-- ==== Sys2Proof/Laws/FrameDelivery.lean ====
section
/-! SUPPORT. Which blocks each operation leaves unchanged: the delivery of a message. One lemma per operation. -/

namespace Sys2Proof.Machine

/-- A fold of operations that each keep a part of the state keeps it. -/
theorem keeps_foldl {α β γ : Type} (part : α → γ) (f : α → β → α) (h : ∀ a b, part (f a b) = part a) :
    ∀ (l : List β) (a : α), part (l.foldl f a) = part a
  | [], _ => rfl
  | b :: l, a => by rw [List.foldl_cons, keeps_foldl part f h l, h]

@[simp] theorem State.updateEntry_keeps (k : Position) (e : Entry) (s : State) :
    (s.updateEntry k e).straps = s.straps ∧ (s.updateEntry k e).cfg = s.cfg ∧ (s.updateEntry k e).bus = s.bus ∧
      (s.updateEntry k e).timer = s.timer ∧ (s.updateEntry k e).ctl = s.ctl ∧ (s.updateEntry k e).sub = s.sub ∧
      (s.updateEntry k e).sched = s.sched ∧ (s.updateEntry k e).obj = s.obj ∧ (s.updateEntry k e).shows = s.shows ∧
      (s.updateEntry k e).comp = s.comp ∧ (s.updateEntry k e).svc = s.svc ∧ (s.updateEntry k e).port = s.port ∧
      (s.updateEntry k e).pending = s.pending := by
  unfold State.updateEntry; try dsimp only
  all_goals (repeat' split)
  all_goals simp

@[simp] theorem State.mergeRule_keeps (m : Message) (s : State) :
    (s.mergeRule m).straps = s.straps ∧ (s.mergeRule m).cfg = s.cfg ∧ (s.mergeRule m).obj = s.obj ∧
      (s.mergeRule m).svc = s.svc ∧ (s.mergeRule m).port = s.port ∧ (s.mergeRule m).pending = s.pending := by
  unfold State.mergeRule; try dsimp only
  all_goals (repeat' split)
  all_goals simp

@[simp] theorem State.rosterStep_keeps (m : Message) (s : State) :
    (s.rosterStep m).straps = s.straps ∧ (s.rosterStep m).cfg = s.cfg ∧ (s.rosterStep m).obj = s.obj ∧
      (s.rosterStep m).svc = s.svc ∧ (s.rosterStep m).port = s.port ∧ (s.rosterStep m).pending = s.pending := by
  unfold State.rosterStep; try dsimp only
  all_goals (repeat' split)
  all_goals simp

@[simp] theorem State.firstMember_keeps (m : Message) (s : State) :
    (s.firstMember m).straps = s.straps ∧ (s.firstMember m).cfg = s.cfg ∧ (s.firstMember m).bus = s.bus ∧
      (s.firstMember m).roster = s.roster ∧ (s.firstMember m).sub = s.sub ∧ (s.firstMember m).sched = s.sched ∧
      (s.firstMember m).obj = s.obj ∧ (s.firstMember m).shows = s.shows ∧ (s.firstMember m).comp = s.comp ∧
      (s.firstMember m).svc = s.svc ∧ (s.firstMember m).port = s.port ∧ (s.firstMember m).events = s.events ∧
      (s.firstMember m).pending = s.pending := by
  refine ⟨?_, ?_, ?_, ?_, ?_, ?_, ?_, ?_, ?_, ?_, ?_, ?_, ?_⟩ <;> rfl

@[simp] theorem State.restartJoining_keeps (w : Bool) (m : Message) (s : State) :
    (s.restartJoining w m).straps = s.straps ∧ (s.restartJoining w m).cfg = s.cfg ∧ (s.restartJoining w m).bus = s.bus ∧
      (s.restartJoining w m).roster = s.roster ∧ (s.restartJoining w m).obj = s.obj ∧ (s.restartJoining w m).shows = s.shows ∧
      (s.restartJoining w m).comp = s.comp ∧ (s.restartJoining w m).svc = s.svc ∧ (s.restartJoining w m).port = s.port ∧
      (s.restartJoining w m).pending = s.pending := by
  unfold State.restartJoining; try dsimp only
  simp

@[simp] theorem State.controllerStep_keeps (w : Bool) (m : Message) (s : State) :
    (s.controllerStep w m).straps = s.straps ∧ (s.controllerStep w m).cfg = s.cfg ∧ (s.controllerStep w m).roster = s.roster ∧
      (s.controllerStep w m).obj = s.obj ∧ (s.controllerStep w m).svc = s.svc ∧ (s.controllerStep w m).port = s.port ∧
      (s.controllerStep w m).pending = s.pending := by
  unfold State.controllerStep; try dsimp only
  all_goals (repeat' split)
  all_goals simp

@[simp] theorem State.setExpected_keeps (k : Position) (n : SeqNum) (s : State) :
    (s.setExpected k n).straps = s.straps ∧ (s.setExpected k n).cfg = s.cfg ∧ (s.setExpected k n).bus = s.bus ∧
      (s.setExpected k n).timer = s.timer ∧ (s.setExpected k n).ctl = s.ctl ∧ (s.setExpected k n).sub = s.sub ∧
      (s.setExpected k n).sched = s.sched ∧ (s.setExpected k n).obj = s.obj ∧ (s.setExpected k n).shows = s.shows ∧
      (s.setExpected k n).snap = s.snap ∧ (s.setExpected k n).comp = s.comp ∧ (s.setExpected k n).svc = s.svc ∧
      (s.setExpected k n).port = s.port ∧ (s.setExpected k n).events = s.events ∧ (s.setExpected k n).pending = s.pending := by
  refine ⟨?_, ?_, ?_, ?_, ?_, ?_, ?_, ?_, ?_, ?_, ?_, ?_, ?_, ?_, ?_⟩ <;> rfl

@[simp] theorem State.gapEffect_keeps (s : State) :
    (s.gapEffect).straps = s.straps ∧ (s.gapEffect).cfg = s.cfg ∧ (s.gapEffect).roster = s.roster ∧ (s.gapEffect).sub = s.sub ∧
      (s.gapEffect).sched = s.sched ∧ (s.gapEffect).obj = s.obj ∧ (s.gapEffect).svc = s.svc ∧ (s.gapEffect).port = s.port ∧
      (s.gapEffect).pending = s.pending := by
  unfold State.gapEffect; try dsimp only
  all_goals (repeat' split)
  all_goals simp

@[simp] theorem State.sequenceCheck_keeps (k : Position) (n : SeqNum) (s : State) :
    (s.sequenceCheck k n).straps = s.straps ∧ (s.sequenceCheck k n).cfg = s.cfg ∧ (s.sequenceCheck k n).sub = s.sub ∧
      (s.sequenceCheck k n).sched = s.sched ∧ (s.sequenceCheck k n).obj = s.obj ∧ (s.sequenceCheck k n).svc = s.svc ∧
      (s.sequenceCheck k n).port = s.port ∧ (s.sequenceCheck k n).pending = s.pending := by
  unfold State.sequenceCheck; try dsimp only
  all_goals (repeat' split)
  all_goals simp

@[simp] theorem State.takeRecords_keeps (k : Position) (n : SeqNum) (rs : List (Change × Frame)) (s : State) :
    (s.takeRecords k n rs).straps = s.straps ∧ (s.takeRecords k n rs).cfg = s.cfg ∧ (s.takeRecords k n rs).bus = s.bus ∧
      (s.takeRecords k n rs).timer = s.timer ∧ (s.takeRecords k n rs).ctl = s.ctl ∧ (s.takeRecords k n rs).obj = s.obj ∧
      (s.takeRecords k n rs).shows = s.shows ∧ (s.takeRecords k n rs).comp = s.comp ∧ (s.takeRecords k n rs).svc = s.svc ∧
      (s.takeRecords k n rs).port = s.port ∧ (s.takeRecords k n rs).pending = s.pending := by
  induction rs generalizing n s with
  | nil => simp [State.takeRecords]
  | cons r rest ih => simp [State.takeRecords, ih]

@[simp] theorem State.scheduleStep_keeps (m : Message) (s : State) :
    (s.scheduleStep m).straps = s.straps ∧ (s.scheduleStep m).cfg = s.cfg ∧ (s.scheduleStep m).obj = s.obj ∧
      (s.scheduleStep m).svc = s.svc ∧ (s.scheduleStep m).port = s.port ∧ (s.scheduleStep m).pending = s.pending := by
  unfold State.scheduleStep; try dsimp only
  all_goals (repeat' split)
  all_goals simp

@[simp] theorem State.snapshotStep_keeps (m : Message) (s : State) :
    (s.snapshotStep m).straps = s.straps ∧ (s.snapshotStep m).cfg = s.cfg ∧ (s.snapshotStep m).svc = s.svc ∧
      (s.snapshotStep m).port = s.port ∧ (s.snapshotStep m).pending = s.pending := by
  unfold State.snapshotStep; try dsimp only
  all_goals (repeat' split)
  all_goals simp

@[simp] theorem State.deliver_keeps (m : Message) (s : State) :
    (s.deliver m).straps = s.straps ∧ (s.deliver m).cfg = s.cfg ∧ (s.deliver m).svc = s.svc ∧ (s.deliver m).port = s.port ∧
      (s.deliver m).pending = s.pending := by
  unfold State.deliver; try dsimp only
  simp

@[simp] theorem State.ageEntry_keeps (k : Position) (s : State) :
    (s.ageEntry k).straps = s.straps ∧ (s.ageEntry k).cfg = s.cfg ∧ (s.ageEntry k).bus = s.bus ∧
      (s.ageEntry k).timer = s.timer ∧ (s.ageEntry k).ctl = s.ctl ∧ (s.ageEntry k).sub = s.sub ∧
      (s.ageEntry k).sched = s.sched ∧ (s.ageEntry k).obj = s.obj ∧ (s.ageEntry k).shows = s.shows ∧
      (s.ageEntry k).comp = s.comp ∧ (s.ageEntry k).svc = s.svc ∧ (s.ageEntry k).port = s.port ∧
      (s.ageEntry k).pending = s.pending := by
  unfold State.ageEntry; try dsimp only
  all_goals (repeat' split)
  all_goals simp

@[simp] theorem State.removeLeaver_keeps (k : Position) (s : State) :
    (s.removeLeaver k).straps = s.straps ∧ (s.removeLeaver k).cfg = s.cfg ∧ (s.removeLeaver k).bus = s.bus ∧
      (s.removeLeaver k).timer = s.timer ∧ (s.removeLeaver k).ctl = s.ctl ∧ (s.removeLeaver k).sub = s.sub ∧
      (s.removeLeaver k).sched = s.sched ∧ (s.removeLeaver k).obj = s.obj ∧ (s.removeLeaver k).shows = s.shows ∧
      (s.removeLeaver k).comp = s.comp ∧ (s.removeLeaver k).svc = s.svc ∧ (s.removeLeaver k).port = s.port ∧
      (s.removeLeaver k).pending = s.pending := by
  unfold State.removeLeaver; try dsimp only
  all_goals (repeat' split)
  all_goals simp

@[simp] theorem State.removeLeavers_keeps (s : State) :
    (s.removeLeavers).straps = s.straps ∧ (s.removeLeavers).cfg = s.cfg ∧ (s.removeLeavers).bus = s.bus ∧
      (s.removeLeavers).timer = s.timer ∧ (s.removeLeavers).ctl = s.ctl ∧ (s.removeLeavers).sub = s.sub ∧
      (s.removeLeavers).sched = s.sched ∧ (s.removeLeavers).obj = s.obj ∧ (s.removeLeavers).shows = s.shows ∧
      (s.removeLeavers).comp = s.comp ∧ (s.removeLeavers).svc = s.svc ∧ (s.removeLeavers).port = s.port ∧
      (s.removeLeavers).pending = s.pending := by
  have h := keeps_foldl (fun t : State => (t.straps, t.cfg, t.bus, t.timer, t.ctl, t.sub, t.sched, t.obj, t.shows, t.comp, t.svc, t.port, t.pending))
    (fun s k => s.removeLeaver k) (fun s k => by simp) (List.finRange 16) s
  simpa [State.removeLeavers] using h

end Sys2Proof.Machine
end

