-- ==== Sys2Proof/Laws/FrameBus.lean ====
section
/-! SUPPORT. Which blocks each operation leaves unchanged: the wall bus interface. One lemma per operation. -/

namespace Sys2Proof.Machine

@[simp] theorem State.buildOwnMessage_keeps (s : State) :
    (s.buildOwnMessage).straps = s.straps ∧ (s.buildOwnMessage).cfg = s.cfg ∧ (s.buildOwnMessage).ctl = s.ctl ∧
      (s.buildOwnMessage).roster = s.roster ∧ (s.buildOwnMessage).sched = s.sched ∧ (s.buildOwnMessage).obj = s.obj ∧
      (s.buildOwnMessage).shows = s.shows ∧ (s.buildOwnMessage).snap = s.snap ∧ (s.buildOwnMessage).comp = s.comp ∧
      (s.buildOwnMessage).svc = s.svc ∧ (s.buildOwnMessage).port = s.port ∧ (s.buildOwnMessage).events = s.events ∧
      (s.buildOwnMessage).pending = s.pending := by
  refine ⟨?_, ?_, ?_, ?_, ?_, ?_, ?_, ?_, ?_, ?_, ?_, ?_, ?_⟩ <;> rfl

@[simp] theorem State.acceptRecords_keeps (rs : List HeldRecord) (s : State) :
    (s.acceptRecords rs).straps = s.straps ∧ (s.acceptRecords rs).cfg = s.cfg ∧ (s.acceptRecords rs).bus = s.bus ∧
      (s.acceptRecords rs).timer = s.timer ∧ (s.acceptRecords rs).ctl = s.ctl ∧ (s.acceptRecords rs).roster = s.roster ∧
      (s.acceptRecords rs).obj = s.obj ∧ (s.acceptRecords rs).shows = s.shows ∧ (s.acceptRecords rs).comp = s.comp ∧
      (s.acceptRecords rs).svc = s.svc ∧ (s.acceptRecords rs).port = s.port ∧ (s.acceptRecords rs).pending = s.pending := by
  have h := keeps_foldl (fun t : State => (t.straps, t.cfg, t.bus, t.timer, t.ctl, t.roster, t.obj, t.shows, t.comp, t.svc, t.port, t.pending))
    (fun s r => s.acceptRecord r) (fun s k => by simp) rs s
  simpa [State.acceptRecords] using h

@[simp] theorem State.readbackSucceeded_keeps (s : State) :
    (s.readbackSucceeded).straps = s.straps ∧ (s.readbackSucceeded).cfg = s.cfg ∧ (s.readbackSucceeded).timer = s.timer ∧
      (s.readbackSucceeded).ctl = s.ctl ∧ (s.readbackSucceeded).roster = s.roster ∧ (s.readbackSucceeded).obj = s.obj ∧
      (s.readbackSucceeded).shows = s.shows ∧ (s.readbackSucceeded).comp = s.comp ∧ (s.readbackSucceeded).svc = s.svc ∧
      (s.readbackSucceeded).port = s.port ∧ (s.readbackSucceeded).pending = s.pending := by
  unfold State.readbackSucceeded; try dsimp only
  all_goals (repeat' split)
  all_goals simp

@[simp] theorem State.readbackFailed_keeps (s : State) :
    (s.readbackFailed).straps = s.straps ∧ (s.readbackFailed).cfg = s.cfg ∧ (s.readbackFailed).obj = s.obj ∧
      (s.readbackFailed).svc = s.svc ∧ (s.readbackFailed).port = s.port ∧ (s.readbackFailed).pending = s.pending := by
  unfold State.readbackFailed; try dsimp only
  all_goals (repeat' split)
  all_goals simp

@[simp] theorem State.handOver_keeps (s : State) :
    (s.handOver).straps = s.straps ∧ (s.handOver).cfg = s.cfg ∧ (s.handOver).timer = s.timer ∧ (s.handOver).ctl = s.ctl ∧
      (s.handOver).roster = s.roster ∧ (s.handOver).obj = s.obj ∧ (s.handOver).shows = s.shows ∧ (s.handOver).comp = s.comp ∧
      (s.handOver).svc = s.svc ∧ (s.handOver).port = s.port ∧ (s.handOver).pending = s.pending := by
  unfold State.handOver; try dsimp only
  simp

@[simp] theorem State.countBad_keeps (s : State) :
    (s.countBad).straps = s.straps ∧ (s.countBad).cfg = s.cfg ∧ (s.countBad).timer = s.timer ∧ (s.countBad).ctl = s.ctl ∧
      (s.countBad).roster = s.roster ∧ (s.countBad).sub = s.sub ∧ (s.countBad).sched = s.sched ∧ (s.countBad).obj = s.obj ∧
      (s.countBad).shows = s.shows ∧ (s.countBad).snap = s.snap ∧ (s.countBad).comp = s.comp ∧ (s.countBad).svc = s.svc ∧
      (s.countBad).port = s.port ∧ (s.countBad).events = s.events ∧ (s.countBad).pending = s.pending := by
  unfold State.countBad; try dsimp only
  all_goals (repeat' split)
  all_goals simp

@[simp] theorem State.openWindow_keeps (k : Position) (s : State) :
    (s.openWindow k).straps = s.straps ∧ (s.openWindow k).cfg = s.cfg ∧ (s.openWindow k).ctl = s.ctl ∧
      (s.openWindow k).roster = s.roster ∧ (s.openWindow k).sub = s.sub ∧ (s.openWindow k).sched = s.sched ∧
      (s.openWindow k).obj = s.obj ∧ (s.openWindow k).shows = s.shows ∧ (s.openWindow k).snap = s.snap ∧
      (s.openWindow k).comp = s.comp ∧ (s.openWindow k).svc = s.svc ∧ (s.openWindow k).port = s.port ∧
      (s.openWindow k).events = s.events ∧ (s.openWindow k).pending = s.pending := by
  refine ⟨?_, ?_, ?_, ?_, ?_, ?_, ?_, ?_, ?_, ?_, ?_, ?_, ?_, ?_⟩ <;> rfl

@[simp] theorem State.closePeerSlot_keeps (k : Position) (s : State) :
    (s.closePeerSlot k).straps = s.straps ∧ (s.closePeerSlot k).cfg = s.cfg ∧ (s.closePeerSlot k).timer = s.timer ∧
      (s.closePeerSlot k).ctl = s.ctl ∧ (s.closePeerSlot k).sub = s.sub ∧ (s.closePeerSlot k).sched = s.sched ∧
      (s.closePeerSlot k).obj = s.obj ∧ (s.closePeerSlot k).shows = s.shows ∧ (s.closePeerSlot k).comp = s.comp ∧
      (s.closePeerSlot k).svc = s.svc ∧ (s.closePeerSlot k).port = s.port ∧ (s.closePeerSlot k).pending = s.pending := by
  unfold State.closePeerSlot; try dsimp only
  all_goals (repeat' split)
  all_goals simp

@[simp] theorem State.closeOwnSlot_keeps (s : State) :
    (s.closeOwnSlot).straps = s.straps ∧ (s.closeOwnSlot).cfg = s.cfg ∧ (s.closeOwnSlot).obj = s.obj ∧
      (s.closeOwnSlot).svc = s.svc ∧ (s.closeOwnSlot).port = s.port ∧ (s.closeOwnSlot).pending = s.pending := by
  unfold State.closeOwnSlot; try dsimp only
  all_goals (repeat' split)
  all_goals simp

@[simp] theorem State.windowClosed_keeps (k : Position) (s : State) :
    (s.windowClosed k).straps = s.straps ∧ (s.windowClosed k).cfg = s.cfg ∧ (s.windowClosed k).ctl = s.ctl ∧
      (s.windowClosed k).roster = s.roster ∧ (s.windowClosed k).sub = s.sub ∧ (s.windowClosed k).sched = s.sched ∧
      (s.windowClosed k).obj = s.obj ∧ (s.windowClosed k).shows = s.shows ∧ (s.windowClosed k).snap = s.snap ∧
      (s.windowClosed k).comp = s.comp ∧ (s.windowClosed k).svc = s.svc ∧ (s.windowClosed k).port = s.port ∧
      (s.windowClosed k).events = s.events ∧ (s.windowClosed k).pending = s.pending := by
  refine ⟨?_, ?_, ?_, ?_, ?_, ?_, ?_, ?_, ?_, ?_, ?_, ?_, ?_, ?_⟩ <;> rfl

@[simp] theorem State.closeSlot_keeps (k : Position) (s : State) :
    (s.closeSlot k).straps = s.straps ∧ (s.closeSlot k).cfg = s.cfg ∧ (s.closeSlot k).obj = s.obj ∧
      (s.closeSlot k).svc = s.svc ∧ (s.closeSlot k).port = s.port ∧ (s.closeSlot k).pending = s.pending := by
  unfold State.closeSlot; try dsimp only
  all_goals (repeat' split)
  all_goals simp

@[simp] theorem State.closeOpenSlot_keeps (s : State) :
    (s.closeOpenSlot).straps = s.straps ∧ (s.closeOpenSlot).cfg = s.cfg ∧ (s.closeOpenSlot).obj = s.obj ∧
      (s.closeOpenSlot).svc = s.svc ∧ (s.closeOpenSlot).port = s.port ∧ (s.closeOpenSlot).pending = s.pending := by
  unfold State.closeOpenSlot; try dsimp only
  all_goals (repeat' split)
  all_goals simp

@[simp] theorem State.openOwnWindow_keeps (s : State) :
    (s.openOwnWindow).straps = s.straps ∧ (s.openOwnWindow).cfg = s.cfg ∧ (s.openOwnWindow).obj = s.obj ∧
      (s.openOwnWindow).svc = s.svc ∧ (s.openOwnWindow).port = s.port ∧ (s.openOwnWindow).pending = s.pending := by
  unfold State.openOwnWindow; try dsimp only
  all_goals (repeat' split)
  all_goals simp

@[simp] theorem State.setAttempt_keeps (b : List Byte) (e : Bool) (s : State) :
    (s.setAttempt b e).straps = s.straps ∧ (s.setAttempt b e).cfg = s.cfg ∧ (s.setAttempt b e).timer = s.timer ∧
      (s.setAttempt b e).ctl = s.ctl ∧ (s.setAttempt b e).roster = s.roster ∧ (s.setAttempt b e).sub = s.sub ∧
      (s.setAttempt b e).sched = s.sched ∧ (s.setAttempt b e).obj = s.obj ∧ (s.setAttempt b e).shows = s.shows ∧
      (s.setAttempt b e).snap = s.snap ∧ (s.setAttempt b e).comp = s.comp ∧ (s.setAttempt b e).svc = s.svc ∧
      (s.setAttempt b e).port = s.port ∧ (s.setAttempt b e).events = s.events ∧ (s.setAttempt b e).pending = s.pending := by
  refine ⟨?_, ?_, ?_, ?_, ?_, ?_, ?_, ?_, ?_, ?_, ?_, ?_, ?_, ?_, ?_⟩ <;> rfl

@[simp] theorem State.takeValid_keeps (m : Message) (s : State) :
    (s.takeValid m).straps = s.straps ∧ (s.takeValid m).cfg = s.cfg ∧ (s.takeValid m).svc = s.svc ∧
      (s.takeValid m).port = s.port ∧ (s.takeValid m).pending = s.pending := by
  unfold State.takeValid; try dsimp only
  all_goals (repeat' split)
  all_goals simp

@[simp] theorem State.judgeAttempt_keeps (s : State) :
    (s.judgeAttempt).straps = s.straps ∧ (s.judgeAttempt).cfg = s.cfg ∧ (s.judgeAttempt).svc = s.svc ∧
      (s.judgeAttempt).port = s.port ∧ (s.judgeAttempt).pending = s.pending := by
  unfold State.judgeAttempt; try dsimp only
  all_goals (repeat' split)
  all_goals simp

@[simp] theorem State.sendOwnMessage_keeps (s : State) :
    (s.sendOwnMessage).straps = s.straps ∧ (s.sendOwnMessage).cfg = s.cfg ∧ (s.sendOwnMessage).ctl = s.ctl ∧
      (s.sendOwnMessage).roster = s.roster ∧ (s.sendOwnMessage).sched = s.sched ∧ (s.sendOwnMessage).obj = s.obj ∧
      (s.sendOwnMessage).shows = s.shows ∧ (s.sendOwnMessage).snap = s.snap ∧ (s.sendOwnMessage).comp = s.comp ∧
      (s.sendOwnMessage).svc = s.svc ∧ (s.sendOwnMessage).port = s.port ∧ (s.sendOwnMessage).events = s.events ∧
      (s.sendOwnMessage).pending = s.pending := by
  unfold State.sendOwnMessage; try dsimp only
  all_goals (repeat' split)
  all_goals simp

@[simp] theorem State.receiveRun_keeps (b : List Byte) (e : AttemptEnd) (s : State) :
    (s.receiveRun b e).straps = s.straps ∧ (s.receiveRun b e).cfg = s.cfg ∧ (s.receiveRun b e).svc = s.svc ∧
      (s.receiveRun b e).port = s.port ∧ (s.receiveRun b e).pending = s.pending := by
  unfold State.receiveRun; try dsimp only
  all_goals (repeat' split)
  all_goals simp

@[simp] theorem State.settleReadback_keeps (c : Bool) (s : State) :
    (s.settleReadback c).straps = s.straps ∧ (s.settleReadback c).cfg = s.cfg ∧ (s.settleReadback c).obj = s.obj ∧
      (s.settleReadback c).svc = s.svc ∧ (s.settleReadback c).port = s.port ∧ (s.settleReadback c).pending = s.pending := by
  unfold State.settleReadback; try dsimp only
  all_goals (repeat' split)
  all_goals simp

@[simp] theorem State.readbackRun_keeps (b : List Byte) (e : AttemptEnd) (s : State) :
    (s.readbackRun b e).straps = s.straps ∧ (s.readbackRun b e).cfg = s.cfg ∧ (s.readbackRun b e).obj = s.obj ∧
      (s.readbackRun b e).svc = s.svc ∧ (s.readbackRun b e).port = s.port ∧ (s.readbackRun b e).pending = s.pending := by
  unfold State.readbackRun; try dsimp only
  all_goals (repeat' split)
  all_goals simp

end Sys2Proof.Machine
end

