-- ==== Sys2Proof/Laws/FrameTimer.lean ====
section
/-! SUPPORT. Which blocks each operation leaves unchanged: time and the frame start. One lemma per operation. -/

namespace Sys2Proof.Machine

@[simp] theorem State.advance_keeps (d : Ticks) (s : State) :
    (s.advance d).straps = s.straps ∧ (s.advance d).cfg = s.cfg ∧ (s.advance d).ctl = s.ctl ∧ (s.advance d).roster = s.roster ∧
      (s.advance d).sub = s.sub ∧ (s.advance d).sched = s.sched ∧ (s.advance d).obj = s.obj ∧ (s.advance d).shows = s.shows ∧
      (s.advance d).snap = s.snap ∧ (s.advance d).comp = s.comp ∧ (s.advance d).port = s.port ∧
      (s.advance d).events = s.events ∧ (s.advance d).pending = s.pending := by
  refine ⟨?_, ?_, ?_, ?_, ?_, ?_, ?_, ?_, ?_, ?_, ?_, ?_, ?_⟩ <;> rfl

@[simp] theorem State.endPulse_keeps (s : State) :
    (s.endPulse).straps = s.straps ∧ (s.endPulse).cfg = s.cfg ∧ (s.endPulse).bus = s.bus ∧ (s.endPulse).ctl = s.ctl ∧
      (s.endPulse).roster = s.roster ∧ (s.endPulse).sub = s.sub ∧ (s.endPulse).sched = s.sched ∧ (s.endPulse).obj = s.obj ∧
      (s.endPulse).shows = s.shows ∧ (s.endPulse).snap = s.snap ∧ (s.endPulse).comp = s.comp ∧ (s.endPulse).svc = s.svc ∧
      (s.endPulse).port = s.port ∧ (s.endPulse).events = s.events ∧ (s.endPulse).pending = s.pending := by
  refine ⟨?_, ?_, ?_, ?_, ?_, ?_, ?_, ?_, ?_, ?_, ?_, ?_, ?_, ?_, ?_⟩ <;> rfl

/-- After it the line is driven just when it was and the pulse has not lasted its time (R22). -/
theorem State.endPulse_driving (s : State) :
    s.endPulse.timer.driving = true ↔ s.timer.driving = true ∧ s.timer.driveElapsed < Config.strobePulse := by
  cases h : s.timer.driving <;> simp [State.endPulse, FrameTimer.pulseOver, h]

@[simp] theorem State.endFrame_keeps (s : State) :
    (s.endFrame).straps = s.straps ∧ (s.endFrame).cfg = s.cfg ∧ (s.endFrame).obj = s.obj ∧ (s.endFrame).svc = s.svc ∧
      (s.endFrame).port = s.port ∧ (s.endFrame).pending = s.pending := by
  unfold State.endFrame; try dsimp only
  all_goals (repeat' split)
  all_goals simp

@[simp] theorem State.startTimer_keeps (o : Bool) (s : State) :
    (s.startTimer o).straps = s.straps ∧ (s.startTimer o).cfg = s.cfg ∧ (s.startTimer o).bus = s.bus ∧
      (s.startTimer o).ctl = s.ctl ∧ (s.startTimer o).roster = s.roster ∧ (s.startTimer o).sub = s.sub ∧
      (s.startTimer o).sched = s.sched ∧ (s.startTimer o).obj = s.obj ∧ (s.startTimer o).shows = s.shows ∧
      (s.startTimer o).snap = s.snap ∧ (s.startTimer o).comp = s.comp ∧ (s.startTimer o).svc = s.svc ∧
      (s.startTimer o).port = s.port ∧ (s.startTimer o).pending = s.pending := by
  refine ⟨?_, ?_, ?_, ?_, ?_, ?_, ?_, ?_, ?_, ?_, ?_, ?_, ?_, ?_⟩ <;> rfl

@[simp] theorem State.sendDeferredWord_keeps (s : State) :
    (s.sendDeferredWord).straps = s.straps ∧ (s.sendDeferredWord).cfg = s.cfg ∧ (s.sendDeferredWord).bus = s.bus ∧
      (s.sendDeferredWord).timer = s.timer ∧ (s.sendDeferredWord).ctl = s.ctl ∧ (s.sendDeferredWord).roster = s.roster ∧
      (s.sendDeferredWord).sub = s.sub ∧ (s.sendDeferredWord).sched = s.sched ∧ (s.sendDeferredWord).obj = s.obj ∧
      (s.sendDeferredWord).snap = s.snap ∧ (s.sendDeferredWord).comp = s.comp ∧ (s.sendDeferredWord).svc = s.svc ∧
      (s.sendDeferredWord).port = s.port ∧ (s.sendDeferredWord).events = s.events ∧ (s.sendDeferredWord).pending = s.pending := by
  refine ⟨?_, ?_, ?_, ?_, ?_, ?_, ?_, ?_, ?_, ?_, ?_, ?_, ?_, ?_, ?_⟩ <;> rfl

@[simp] theorem State.found_keeps (s : State) :
    (s.found).straps = s.straps ∧ (s.found).cfg = s.cfg ∧ (s.found).roster = s.roster ∧ (s.found).sub = s.sub ∧
      (s.found).svc = s.svc ∧ (s.found).port = s.port ∧ (s.found).pending = s.pending := by
  unfold State.found; try dsimp only
  simp

@[simp] theorem State.endListening_keeps (s : State) :
    (s.endListening).straps = s.straps ∧ (s.endListening).cfg = s.cfg ∧ (s.endListening).roster = s.roster ∧
      (s.endListening).sub = s.sub ∧ (s.endListening).svc = s.svc ∧ (s.endListening).port = s.port ∧
      (s.endListening).pending = s.pending := by
  unfold State.endListening; try dsimp only
  all_goals (repeat' split)
  all_goals simp

@[simp] theorem State.countListening_keeps (s : State) :
    (s.countListening).straps = s.straps ∧ (s.countListening).cfg = s.cfg ∧ (s.countListening).roster = s.roster ∧
      (s.countListening).sub = s.sub ∧ (s.countListening).svc = s.svc ∧ (s.countListening).port = s.port ∧
      (s.countListening).pending = s.pending := by
  unfold State.countListening; try dsimp only
  all_goals (repeat' split)
  all_goals simp

@[simp] theorem State.listeningFrame_keeps (s : State) :
    (s.listeningFrame).straps = s.straps ∧ (s.listeningFrame).cfg = s.cfg ∧ (s.listeningFrame).svc = s.svc ∧
      (s.listeningFrame).port = s.port ∧ (s.listeningFrame).pending = s.pending := by
  unfold State.listeningFrame; try dsimp only
  simp

@[simp] theorem State.joiningFrame_keeps (s : State) :
    (s.joiningFrame).straps = s.straps ∧ (s.joiningFrame).cfg = s.cfg ∧ (s.joiningFrame).bus = s.bus ∧
      (s.joiningFrame).timer = s.timer ∧ (s.joiningFrame).ctl = s.ctl ∧ (s.joiningFrame).obj = s.obj ∧
      (s.joiningFrame).comp = s.comp ∧ (s.joiningFrame).svc = s.svc ∧ (s.joiningFrame).port = s.port ∧
      (s.joiningFrame).pending = s.pending := by
  unfold State.joiningFrame; try dsimp only
  simp

@[simp] theorem State.memberFrame_keeps (s : State) :
    (s.memberFrame).straps = s.straps ∧ (s.memberFrame).cfg = s.cfg ∧ (s.memberFrame).bus = s.bus ∧
      (s.memberFrame).timer = s.timer ∧ (s.memberFrame).ctl = s.ctl ∧ (s.memberFrame).svc = s.svc ∧
      (s.memberFrame).port = s.port ∧ (s.memberFrame).pending = s.pending := by
  unfold State.memberFrame; try dsimp only
  simp

@[simp] theorem State.leaveDone_keeps (s : State) :
    (s.leaveDone).straps = s.straps ∧ (s.leaveDone).cfg = s.cfg ∧ (s.leaveDone).obj = s.obj ∧ (s.leaveDone).port = s.port ∧
      (s.leaveDone).pending = s.pending := by
  unfold State.leaveDone; try dsimp only
  all_goals (repeat' split)
  all_goals simp

@[simp] theorem State.leavingFrame_keeps (s : State) :
    (s.leavingFrame).straps = s.straps ∧ (s.leavingFrame).cfg = s.cfg ∧ (s.leavingFrame).port = s.port ∧
      (s.leavingFrame).pending = s.pending := by
  unfold State.leavingFrame; try dsimp only
  all_goals (repeat' split)
  all_goals simp

@[simp] theorem State.blockWork_keeps (s : State) :
    (s.blockWork).straps = s.straps ∧ (s.blockWork).cfg = s.cfg ∧ (s.blockWork).port = s.port ∧
      (s.blockWork).pending = s.pending := by
  unfold State.blockWork; try dsimp only
  all_goals (repeat' split)
  all_goals simp

@[simp] theorem State.evaluateOutput_keeps (s : State) :
    (s.evaluateOutput).straps = s.straps ∧ (s.evaluateOutput).cfg = s.cfg ∧ (s.evaluateOutput).bus = s.bus ∧
      (s.evaluateOutput).timer = s.timer ∧ (s.evaluateOutput).ctl = s.ctl ∧ (s.evaluateOutput).roster = s.roster ∧
      (s.evaluateOutput).sub = s.sub ∧ (s.evaluateOutput).sched = s.sched ∧ (s.evaluateOutput).obj = s.obj ∧
      (s.evaluateOutput).shows = s.shows ∧ (s.evaluateOutput).snap = s.snap ∧ (s.evaluateOutput).svc = s.svc ∧
      (s.evaluateOutput).port = s.port ∧ (s.evaluateOutput).events = s.events ∧ (s.evaluateOutput).pending = s.pending := by
  refine ⟨?_, ?_, ?_, ?_, ?_, ?_, ?_, ?_, ?_, ?_, ?_, ?_, ?_, ?_, ?_⟩ <;> rfl

@[simp] theorem State.frameStart_keeps (o : Bool) (s : State) :
    (s.frameStart o).straps = s.straps ∧ (s.frameStart o).cfg = s.cfg ∧ (s.frameStart o).port = s.port ∧
      (s.frameStart o).pending = s.pending := by
  unfold State.frameStart; try dsimp only
  simp

@[simp] theorem State.strobeEdge_keeps (s : State) :
    (s.strobeEdge).straps = s.straps ∧ (s.strobeEdge).cfg = s.cfg ∧ (s.strobeEdge).port = s.port ∧
      (s.strobeEdge).pending = s.pending := by
  unfold State.strobeEdge; try dsimp only
  all_goals (repeat' split)
  all_goals simp

end Sys2Proof.Machine
end

