-- ==== Sys2Proof/Laws/FramePort.lean ====
section
/-! SUPPORT. Which blocks each operation leaves unchanged: the control port, the station commands, the submission unit and panel service. One lemma per operation. -/

namespace Sys2Proof.Machine

@[simp] theorem State.portWrite_keeps (i : BitVec 7) (s : State) :
    (s.portWrite i).straps = s.straps ∧ (s.portWrite i).cfg = s.cfg ∧ (s.portWrite i).bus = s.bus ∧
      (s.portWrite i).timer = s.timer ∧ (s.portWrite i).ctl = s.ctl ∧ (s.portWrite i).roster = s.roster ∧
      (s.portWrite i).sub = s.sub ∧ (s.portWrite i).sched = s.sched ∧ (s.portWrite i).obj = s.obj ∧
      (s.portWrite i).shows = s.shows ∧ (s.portWrite i).snap = s.snap ∧ (s.portWrite i).comp = s.comp ∧
      (s.portWrite i).svc = s.svc ∧ (s.portWrite i).events = s.events ∧ (s.portWrite i).pending = s.pending := by
  refine ⟨?_, ?_, ?_, ?_, ?_, ?_, ?_, ?_, ?_, ?_, ?_, ?_, ?_, ?_, ?_⟩ <;> rfl

@[simp] theorem State.portWriteAt_keeps (i : BitVec 7) (n : Nat) (s : State) :
    (s.portWriteAt i n).straps = s.straps ∧ (s.portWriteAt i n).cfg = s.cfg ∧ (s.portWriteAt i n).bus = s.bus ∧
      (s.portWriteAt i n).timer = s.timer ∧ (s.portWriteAt i n).ctl = s.ctl ∧ (s.portWriteAt i n).roster = s.roster ∧
      (s.portWriteAt i n).sub = s.sub ∧ (s.portWriteAt i n).sched = s.sched ∧ (s.portWriteAt i n).obj = s.obj ∧
      (s.portWriteAt i n).shows = s.shows ∧ (s.portWriteAt i n).snap = s.snap ∧ (s.portWriteAt i n).comp = s.comp ∧
      (s.portWriteAt i n).svc = s.svc ∧ (s.portWriteAt i n).events = s.events ∧ (s.portWriteAt i n).pending = s.pending := by
  refine ⟨?_, ?_, ?_, ?_, ?_, ?_, ?_, ?_, ?_, ?_, ?_, ?_, ?_, ?_, ?_⟩ <;> rfl

@[simp] theorem State.portRead_keeps (i : BitVec 7) (b : Byte) (s : State) :
    (s.portRead i b).straps = s.straps ∧ (s.portRead i b).cfg = s.cfg ∧ (s.portRead i b).bus = s.bus ∧
      (s.portRead i b).timer = s.timer ∧ (s.portRead i b).ctl = s.ctl ∧ (s.portRead i b).roster = s.roster ∧
      (s.portRead i b).sub = s.sub ∧ (s.portRead i b).sched = s.sched ∧ (s.portRead i b).obj = s.obj ∧
      (s.portRead i b).shows = s.shows ∧ (s.portRead i b).snap = s.snap ∧ (s.portRead i b).comp = s.comp ∧
      (s.portRead i b).svc = s.svc ∧ (s.portRead i b).events = s.events ∧ (s.portRead i b).pending = s.pending := by
  refine ⟨?_, ?_, ?_, ?_, ?_, ?_, ?_, ?_, ?_, ?_, ?_, ?_, ?_, ?_, ?_⟩ <;> rfl

@[simp] theorem State.portReadWhole_keeps (i : BitVec 7) (bs : List Byte) (s : State) :
    (s.portReadWhole i bs).straps = s.straps ∧ (s.portReadWhole i bs).cfg = s.cfg ∧ (s.portReadWhole i bs).bus = s.bus ∧
      (s.portReadWhole i bs).timer = s.timer ∧ (s.portReadWhole i bs).ctl = s.ctl ∧ (s.portReadWhole i bs).roster = s.roster ∧
      (s.portReadWhole i bs).sub = s.sub ∧ (s.portReadWhole i bs).sched = s.sched ∧ (s.portReadWhole i bs).obj = s.obj ∧
      (s.portReadWhole i bs).shows = s.shows ∧ (s.portReadWhole i bs).snap = s.snap ∧ (s.portReadWhole i bs).comp = s.comp ∧
      (s.portReadWhole i bs).svc = s.svc ∧ (s.portReadWhole i bs).events = s.events ∧ (s.portReadWhole i bs).pending = s.pending := by
  refine ⟨?_, ?_, ?_, ?_, ?_, ?_, ?_, ?_, ?_, ?_, ?_, ?_, ?_, ?_, ?_⟩ <;> rfl

@[simp] theorem State.startListening_keeps (s : State) :
    (s.startListening).straps = s.straps ∧ (s.startListening).cfg = s.cfg ∧ (s.startListening).sub = s.sub ∧
      (s.startListening).sched = s.sched ∧ (s.startListening).obj = s.obj ∧ (s.startListening).shows = s.shows ∧
      (s.startListening).svc = s.svc ∧ (s.startListening).port = s.port ∧ (s.startListening).pending = s.pending := by
  refine ⟨?_, ?_, ?_, ?_, ?_, ?_, ?_, ?_, ?_⟩ <;> rfl

@[simp] theorem State.joinCommand_keeps (s : State) :
    (s.joinCommand).straps = s.straps ∧ (s.joinCommand).cfg = s.cfg ∧ (s.joinCommand).obj = s.obj ∧
      (s.joinCommand).svc = s.svc ∧ (s.joinCommand).port = s.port ∧ (s.joinCommand).pending = s.pending := by
  unfold State.joinCommand; try dsimp only
  all_goals (repeat' split)
  all_goals simp

@[simp] theorem State.startLoopback_keeps (s : State) :
    (s.startLoopback).straps = s.straps ∧ (s.startLoopback).cfg = s.cfg ∧ (s.startLoopback).sub = s.sub ∧
      (s.startLoopback).sched = s.sched ∧ (s.startLoopback).svc = s.svc ∧ (s.startLoopback).port = s.port ∧
      (s.startLoopback).pending = s.pending := by
  unfold State.startLoopback; try dsimp only
  simp

@[simp] theorem State.loopbackCommand_keeps (s : State) :
    (s.loopbackCommand).straps = s.straps ∧ (s.loopbackCommand).cfg = s.cfg ∧ (s.loopbackCommand).svc = s.svc ∧
      (s.loopbackCommand).port = s.port ∧ (s.loopbackCommand).pending = s.pending := by
  unfold State.loopbackCommand; try dsimp only
  all_goals (repeat' split)
  all_goals simp

@[simp] theorem State.unloopCommand_keeps (s : State) :
    (s.unloopCommand).straps = s.straps ∧ (s.unloopCommand).cfg = s.cfg ∧ (s.unloopCommand).obj = s.obj ∧
      (s.unloopCommand).svc = s.svc ∧ (s.unloopCommand).port = s.port ∧ (s.unloopCommand).pending = s.pending := by
  unfold State.unloopCommand; try dsimp only
  all_goals (repeat' split)
  all_goals simp

@[simp] theorem State.clearFaultCommand_keeps (s : State) :
    (s.clearFaultCommand).straps = s.straps ∧ (s.clearFaultCommand).cfg = s.cfg ∧ (s.clearFaultCommand).obj = s.obj ∧
      (s.clearFaultCommand).svc = s.svc ∧ (s.clearFaultCommand).port = s.port ∧ (s.clearFaultCommand).pending = s.pending := by
  unfold State.clearFaultCommand; try dsimp only
  all_goals (repeat' split)
  all_goals simp

@[simp] theorem State.beginLeaving_keeps (q : Bool) (s : State) :
    (s.beginLeaving q).straps = s.straps ∧ (s.beginLeaving q).cfg = s.cfg ∧ (s.beginLeaving q).roster = s.roster ∧
      (s.beginLeaving q).sub = s.sub ∧ (s.beginLeaving q).sched = s.sched ∧ (s.beginLeaving q).obj = s.obj ∧
      (s.beginLeaving q).shows = s.shows ∧ (s.beginLeaving q).svc = s.svc ∧ (s.beginLeaving q).port = s.port ∧
      (s.beginLeaving q).pending = s.pending := by
  unfold State.beginLeaving; try dsimp only
  simp

@[simp] theorem State.leaveCommand_keeps (s : State) :
    (s.leaveCommand).straps = s.straps ∧ (s.leaveCommand).cfg = s.cfg ∧ (s.leaveCommand).obj = s.obj ∧
      (s.leaveCommand).svc = s.svc ∧ (s.leaveCommand).port = s.port ∧ (s.leaveCommand).pending = s.pending := by
  unfold State.leaveCommand; try dsimp only
  all_goals (repeat' split)
  all_goals simp

@[simp] theorem State.autoLeaveRequest_keeps (s : State) :
    (s.autoLeaveRequest).straps = s.straps ∧ (s.autoLeaveRequest).cfg = s.cfg ∧ (s.autoLeaveRequest).obj = s.obj ∧
      (s.autoLeaveRequest).port = s.port ∧ (s.autoLeaveRequest).pending = s.pending := by
  unfold State.autoLeaveRequest; try dsimp only
  all_goals (repeat' split)
  all_goals simp

@[simp] theorem State.refuse_keeps (q : RefusalReason) (p : RefusalPath) (s : State) :
    (s.refuse q p).straps = s.straps ∧ (s.refuse q p).cfg = s.cfg ∧ (s.refuse q p).bus = s.bus ∧
      (s.refuse q p).timer = s.timer ∧ (s.refuse q p).ctl = s.ctl ∧ (s.refuse q p).roster = s.roster ∧
      (s.refuse q p).sched = s.sched ∧ (s.refuse q p).obj = s.obj ∧ (s.refuse q p).shows = s.shows ∧
      (s.refuse q p).snap = s.snap ∧ (s.refuse q p).comp = s.comp ∧ (s.refuse q p).svc = s.svc ∧ (s.refuse q p).port = s.port ∧
      (s.refuse q p).events = s.events ∧ (s.refuse q p).pending = s.pending := by
  refine ⟨?_, ?_, ?_, ?_, ?_, ?_, ?_, ?_, ?_, ?_, ?_, ?_, ?_, ?_, ?_⟩ <;> rfl

@[simp] theorem State.submit_keeps (c : Option Change) (p : RefusalPath) (s : State) :
    (s.submit c p).straps = s.straps ∧ (s.submit c p).cfg = s.cfg ∧ (s.submit c p).bus = s.bus ∧
      (s.submit c p).timer = s.timer ∧ (s.submit c p).ctl = s.ctl ∧ (s.submit c p).roster = s.roster ∧
      (s.submit c p).sched = s.sched ∧ (s.submit c p).obj = s.obj ∧ (s.submit c p).shows = s.shows ∧
      (s.submit c p).snap = s.snap ∧ (s.submit c p).comp = s.comp ∧ (s.submit c p).svc = s.svc ∧ (s.submit c p).port = s.port ∧
      (s.submit c p).events = s.events ∧ (s.submit c p).pending = s.pending := by
  unfold State.submit; try dsimp only
  all_goals (repeat' split)
  all_goals simp

@[simp] theorem State.storeStage_keeps (k : Nat) (b : Byte) (s : State) :
    (s.storeStage k b).straps = s.straps ∧ (s.storeStage k b).cfg = s.cfg ∧ (s.storeStage k b).bus = s.bus ∧
      (s.storeStage k b).timer = s.timer ∧ (s.storeStage k b).ctl = s.ctl ∧ (s.storeStage k b).roster = s.roster ∧
      (s.storeStage k b).sched = s.sched ∧ (s.storeStage k b).obj = s.obj ∧ (s.storeStage k b).shows = s.shows ∧
      (s.storeStage k b).snap = s.snap ∧ (s.storeStage k b).comp = s.comp ∧ (s.storeStage k b).svc = s.svc ∧
      (s.storeStage k b).port = s.port ∧ (s.storeStage k b).events = s.events ∧ (s.storeStage k b).pending = s.pending := by
  unfold State.storeStage; try dsimp only
  all_goals (repeat' split)
  all_goals simp

@[simp] theorem State.blueWrite_keeps (b : Byte) (s : State) :
    (s.blueWrite b).straps = s.straps ∧ (s.blueWrite b).cfg = s.cfg ∧ (s.blueWrite b).bus = s.bus ∧
      (s.blueWrite b).timer = s.timer ∧ (s.blueWrite b).ctl = s.ctl ∧ (s.blueWrite b).roster = s.roster ∧
      (s.blueWrite b).sched = s.sched ∧ (s.blueWrite b).obj = s.obj ∧ (s.blueWrite b).shows = s.shows ∧
      (s.blueWrite b).snap = s.snap ∧ (s.blueWrite b).comp = s.comp ∧ (s.blueWrite b).svc = s.svc ∧
      (s.blueWrite b).port = s.port ∧ (s.blueWrite b).events = s.events ∧ (s.blueWrite b).pending = s.pending := by
  unfold State.blueWrite; try dsimp only
  all_goals (repeat' split)
  all_goals simp

@[simp] theorem State.paletteWrite_keeps (b : Byte) (s : State) :
    (s.paletteWrite b).straps = s.straps ∧ (s.paletteWrite b).cfg = s.cfg ∧ (s.paletteWrite b).bus = s.bus ∧
      (s.paletteWrite b).timer = s.timer ∧ (s.paletteWrite b).ctl = s.ctl ∧ (s.paletteWrite b).roster = s.roster ∧
      (s.paletteWrite b).sched = s.sched ∧ (s.paletteWrite b).obj = s.obj ∧ (s.paletteWrite b).shows = s.shows ∧
      (s.paletteWrite b).snap = s.snap ∧ (s.paletteWrite b).comp = s.comp ∧ (s.paletteWrite b).svc = s.svc ∧
      (s.paletteWrite b).port = s.port ∧ (s.paletteWrite b).events = s.events ∧ (s.paletteWrite b).pending = s.pending := by
  unfold State.paletteWrite; try dsimp only
  all_goals (repeat' split)
  all_goals simp

@[simp] theorem State.cursorWrite_keeps (b : Byte) (s : State) :
    (s.cursorWrite b).straps = s.straps ∧ (s.cursorWrite b).cfg = s.cfg ∧ (s.cursorWrite b).bus = s.bus ∧
      (s.cursorWrite b).timer = s.timer ∧ (s.cursorWrite b).ctl = s.ctl ∧ (s.cursorWrite b).roster = s.roster ∧
      (s.cursorWrite b).sched = s.sched ∧ (s.cursorWrite b).obj = s.obj ∧ (s.cursorWrite b).shows = s.shows ∧
      (s.cursorWrite b).snap = s.snap ∧ (s.cursorWrite b).comp = s.comp ∧ (s.cursorWrite b).svc = s.svc ∧
      (s.cursorWrite b).port = s.port ∧ (s.cursorWrite b).events = s.events ∧ (s.cursorWrite b).pending = s.pending := by
  unfold State.cursorWrite; try dsimp only
  all_goals (repeat' split)
  all_goals simp

@[simp] theorem State.servicePower_keeps (v : Service) (s : State) :
    (s.servicePower v).straps = s.straps ∧ (s.servicePower v).cfg = s.cfg ∧ (s.servicePower v).bus = s.bus ∧
      (s.servicePower v).timer = s.timer ∧ (s.servicePower v).ctl = s.ctl ∧ (s.servicePower v).roster = s.roster ∧
      (s.servicePower v).sub = s.sub ∧ (s.servicePower v).sched = s.sched ∧ (s.servicePower v).obj = s.obj ∧
      (s.servicePower v).shows = s.shows ∧ (s.servicePower v).snap = s.snap ∧ (s.servicePower v).port = s.port ∧
      (s.servicePower v).pending = s.pending := by
  refine ⟨?_, ?_, ?_, ?_, ?_, ?_, ?_, ?_, ?_, ?_, ?_, ?_, ?_⟩ <;> rfl

@[simp] theorem State.serviceBusy_keeps (s : State) :
    (s.serviceBusy).straps = s.straps ∧ (s.serviceBusy).cfg = s.cfg ∧ (s.serviceBusy).bus = s.bus ∧
      (s.serviceBusy).timer = s.timer ∧ (s.serviceBusy).ctl = s.ctl ∧ (s.serviceBusy).roster = s.roster ∧
      (s.serviceBusy).sub = s.sub ∧ (s.serviceBusy).sched = s.sched ∧ (s.serviceBusy).obj = s.obj ∧
      (s.serviceBusy).shows = s.shows ∧ (s.serviceBusy).snap = s.snap ∧ (s.serviceBusy).comp = s.comp ∧
      (s.serviceBusy).svc = s.svc ∧ (s.serviceBusy).port = s.port ∧ (s.serviceBusy).pending = s.pending := by
  refine ⟨?_, ?_, ?_, ?_, ?_, ?_, ?_, ?_, ?_, ?_, ?_, ?_, ?_, ?_, ?_⟩ <;> rfl

@[simp] theorem State.acceptPowerOn_keeps (l : BitVec 3) (s : State) :
    (s.acceptPowerOn l).straps = s.straps ∧ (s.acceptPowerOn l).cfg = s.cfg ∧ (s.acceptPowerOn l).bus = s.bus ∧
      (s.acceptPowerOn l).timer = s.timer ∧ (s.acceptPowerOn l).ctl = s.ctl ∧ (s.acceptPowerOn l).roster = s.roster ∧
      (s.acceptPowerOn l).sub = s.sub ∧ (s.acceptPowerOn l).sched = s.sched ∧ (s.acceptPowerOn l).obj = s.obj ∧
      (s.acceptPowerOn l).shows = s.shows ∧ (s.acceptPowerOn l).snap = s.snap ∧ (s.acceptPowerOn l).port = s.port ∧
      (s.acceptPowerOn l).pending = s.pending := by
  refine ⟨?_, ?_, ?_, ?_, ?_, ?_, ?_, ?_, ?_, ?_, ?_, ?_, ?_⟩ <;> rfl

@[simp] theorem State.acceptPowerOff_keeps (l : BitVec 3) (s : State) :
    (s.acceptPowerOff l).straps = s.straps ∧ (s.acceptPowerOff l).cfg = s.cfg ∧ (s.acceptPowerOff l).bus = s.bus ∧
      (s.acceptPowerOff l).timer = s.timer ∧ (s.acceptPowerOff l).ctl = s.ctl ∧ (s.acceptPowerOff l).roster = s.roster ∧
      (s.acceptPowerOff l).sub = s.sub ∧ (s.acceptPowerOff l).sched = s.sched ∧ (s.acceptPowerOff l).obj = s.obj ∧
      (s.acceptPowerOff l).shows = s.shows ∧ (s.acceptPowerOff l).snap = s.snap ∧ (s.acceptPowerOff l).port = s.port ∧
      (s.acceptPowerOff l).pending = s.pending := by
  refine ⟨?_, ?_, ?_, ?_, ?_, ?_, ?_, ?_, ?_, ?_, ?_, ?_, ?_⟩ <;> rfl

@[simp] theorem State.acceptLed_keeps (l : BitVec 3) (s : State) :
    (s.acceptLed l).straps = s.straps ∧ (s.acceptLed l).cfg = s.cfg ∧ (s.acceptLed l).bus = s.bus ∧
      (s.acceptLed l).timer = s.timer ∧ (s.acceptLed l).ctl = s.ctl ∧ (s.acceptLed l).roster = s.roster ∧
      (s.acceptLed l).sub = s.sub ∧ (s.acceptLed l).sched = s.sched ∧ (s.acceptLed l).obj = s.obj ∧
      (s.acceptLed l).shows = s.shows ∧ (s.acceptLed l).snap = s.snap ∧ (s.acceptLed l).comp = s.comp ∧
      (s.acceptLed l).port = s.port ∧ (s.acceptLed l).pending = s.pending := by
  refine ⟨?_, ?_, ?_, ?_, ?_, ?_, ?_, ?_, ?_, ?_, ?_, ?_, ?_, ?_⟩ <;> rfl

@[simp] theorem State.buttonPress_keeps (s : State) :
    (s.buttonPress).straps = s.straps ∧ (s.buttonPress).cfg = s.cfg ∧ (s.buttonPress).obj = s.obj ∧
      (s.buttonPress).port = s.port ∧ (s.buttonPress).pending = s.pending := by
  unfold State.buttonPress; try dsimp only
  all_goals (repeat' split)
  all_goals simp

@[simp] theorem State.debounced_keeps (q : PanelInput) (s : State) :
    (s.debounced q).straps = s.straps ∧ (s.debounced q).cfg = s.cfg ∧ (s.debounced q).obj = s.obj ∧
      (s.debounced q).port = s.port ∧ (s.debounced q).pending = s.pending := by
  unfold State.debounced; try dsimp only
  all_goals (repeat' split)
  all_goals simp

end Sys2Proof.Machine
end

