-- ==== Sys2Proof/Laws/Exec.lean ====
section
/-! SUPPORT. Every command answers a next state, `effect c s`; how `step` goes through `exec`; the frames of the resets and of a configuration
write. -/

namespace Sys2Proof.Machine

/-- No command faults or is refused. -/
theorem exec_eq_next (c : Instr) (s : State) : exec c s = .next (effect c s) := by
  cases c <;> rfl

theorem exec_eq_next_iff (c : Instr) (s t : State) : exec c s = .next t ↔ t = effect c s := by
  rw [exec_eq_next]
  exact ⟨fun h => by cases h; rfl, fun h => by rw [h]⟩

theorem step_cons (c : Instr) (rest : List Instr) (s : State) (h : s.pending = c :: rest) :
    step s = exec c { s with pending := rest } := by
  simp [step, h]

theorem step_nil (s : State) (h : s.pending = []) : step s = idleStep s := by
  simp [step, h]

/-- What every step keeps: a property that every command keeps, that does not speak of the queue, and that the passing of time keeps. -/
theorem step_keeps {P : State → Prop} (hq : ∀ s q, P s → P { s with pending := q }) (ht : ∀ s, P s → P (s.advance 1))
    (hc : ∀ c s, P s → P (effect c s)) (s t : State) (h : step s = .next t) (hs : P s) : P t := by
  cases hp : s.pending with
  | cons c rest =>
    rw [step_cons c rest s hp, exec_eq_next_iff] at h
    rw [h]; exact hc _ _ (hq _ _ hs)
  | nil =>
    rw [step_nil s hp, idleStep] at h
    cases hd : s.dueEvent with
    | some c => rw [hd] at h; rw [(exec_eq_next_iff c s t).1 h]; exact hc _ _ hs
    | none => rw [hd] at h; cases h; exact ht _ hs

@[simp] theorem State.takeConfig_keeps (reg : ConfigReg) (w : Option Configuration) (s : State) :
    (s.takeConfig reg w).straps = s.straps ∧ (s.takeConfig reg w).bus = s.bus ∧ (s.takeConfig reg w).timer = s.timer ∧
      (s.takeConfig reg w).ctl = s.ctl ∧ (s.takeConfig reg w).roster = s.roster ∧ (s.takeConfig reg w).sub = s.sub ∧
      (s.takeConfig reg w).sched = s.sched ∧ (s.takeConfig reg w).obj = s.obj ∧ (s.takeConfig reg w).shows = s.shows ∧
      (s.takeConfig reg w).snap = s.snap ∧ (s.takeConfig reg w).comp = s.comp ∧ (s.takeConfig reg w).svc = s.svc ∧
      (s.takeConfig reg w).port = s.port ∧ (s.takeConfig reg w).pending = s.pending := by
  unfold State.takeConfig
  (repeat' split) <;> simp

@[simp] theorem State.resetStation_keeps (s : State) :
    s.resetStation.straps = s.straps ∧ s.resetStation.cfg = s.cfg ∧ s.resetStation.svc = s.svc ∧ s.resetStation.port = s.port ∧
      s.resetStation.pending = s.pending := ⟨rfl, rfl, rfl, rfl, rfl⟩

end Sys2Proof.Machine
end

