-- ==== Sys2Proof/Laws/Records.lean ====
section
/-! SUPPORT. What the shared operations over tables and record lists do: the entries of a table, insertion and room in the pending list, the receipts of an apply, of a
cleared queue and of sent records, the numbering of sent records. -/

namespace Sys2Proof.Machine

/-! ### Tables -/

theorem tabulate_eq_ofFn {α : Type} (n : Nat) (f : Fin n → α) : tabulate n f = List.ofFn f := by
  induction n with
  | zero => rfl
  | succ n ih => rw [tabulate, ih, List.ofFn_succ]

@[simp] theorem table_getElem {α : Type} {n : Nat} (f : Fin n → α) (i : Nat) (h : i < n) : (table f)[i] = f ⟨i, h⟩ := by
  simp only [table, tabulate_eq_ofFn]
  simp

/-! ### The pending list -/

/-- An insertion adds the record and keeps the others. -/
theorem insertHeld_perm (r : HeldRecord) (l : List HeldRecord) : (insertHeld r l).Perm (r :: l) := by
  induction l with
  | nil => exact List.Perm.refl _
  | cons x l ih =>
    unfold insertHeld; split
    · exact List.Perm.refl _
    · exact (List.Perm.cons x ih).trans (List.Perm.swap r x l)

@[simp] theorem insertHeld_length (r : HeldRecord) (l : List HeldRecord) : (insertHeld r l).length = l.length + 1 := by
  simpa using (insertHeld_perm r l).length_eq

@[simp] theorem mem_insertHeld (r x : HeldRecord) (l : List HeldRecord) : x ∈ insertHeld r l ↔ x = r ∨ x ∈ l := by
  simpa using (insertHeld_perm r l).mem_iff (a := x)

/-- The own records of a list after an insertion. -/
theorem insertHeld_own_length (own : Position) (r : HeldRecord) (l : List HeldRecord) :
    ((insertHeld r l).filter fun x => x.origin == own).length
      = (l.filter fun x => x.origin == own).length + if r.origin = own then 1 else 0 := by
  rw [((insertHeld_perm r l).filter _).length_eq]
  by_cases h : r.origin = own <;> simp [h]

/-- Room in the pending list (R81). -/
theorem hasRoom_iff (r : HeldRecord) (l : List HeldRecord) :
    hasRoom r l = true ↔ l.length < 48 ∧ ∀ x ∈ l, ¬(x.origin = r.origin ∧ x.seq = r.seq) := by
  simp only [hasRoom, Config.pendingCapacity, Bool.and_eq_true, List.all_eq_true, Bool.not_eq_true', Bool.and_eq_false_iff,
    beq_eq_false_iff_ne, not_and_or]
  exact and_congr_left' decide_eq_true_iff

/-- The own records that pass a test and those that do not are all the own records. -/
theorem own_filter_split (own : Position) (p : HeldRecord → Bool) (l : List HeldRecord) :
    ((l.filter p).filter fun r => r.origin == own).length + ((l.filter fun r => !p r).filter fun r => r.origin == own).length
      = (l.filter fun r => r.origin == own).length := by
  induction l with
  | nil => rfl
  | cons r l ih => cases h1 : p r <;> cases h2 : (r.origin == own) <;> simp [h1, h2] at * <;> omega

/-! ### Receipts -/

@[simp] theorem uncertainReceipts_length (own : Position) (l : List HeldRecord) :
    (uncertainReceipts own l).length = (l.filter fun r => r.origin == own).length := by
  simp [uncertainReceipts]

@[simp] theorem notSentReceipts_length (n : SeqNum) (q : List OutRecord) : (notSentReceipts n q).1.length = q.length := by
  induction q generalizing n with
  | nil => rfl
  | cons r q ih => obtain ⟨c, st⟩ := r; cases st <;> simp [notSentReceipts, ih]

theorem ApplyRun.settle_receipts_length (own : Position) (r : HeldRecord) (o : ReceiptOutcome) (run : ApplyRun) :
    (run.settle own r o).receipts.length = run.receipts.length + if r.origin == own then 1 else 0 := by
  unfold ApplyRun.settle
  by_cases h : r.origin = own <;> simp [h]

/-- A record taken at a frame start gives one receipt when its origin is the own position (R91). -/
theorem dispatchAtFrame_receipts_length (g : Geometry) (own : Position) (run : ApplyRun) (r : HeldRecord) :
    (dispatchAtFrame g own run r).receipts.length = run.receipts.length + if r.origin == own then 1 else 0 := by
  unfold dispatchAtFrame ApplyRun.store
  split
  · split <;> simp only [ApplyRun.settle_receipts_length]
  · simp only [ApplyRun.settle_receipts_length]

/-- The same for a record of an install (R96). -/
theorem dispatchAtInstall_receipts_length (g : Geometry) (own : Position) (run : ApplyRun) (r : HeldRecord) :
    (dispatchAtInstall g own run r).receipts.length = run.receipts.length + if r.origin == own then 1 else 0 := by
  unfold dispatchAtInstall ApplyRun.store
  split
  · split <;> simp only [ApplyRun.settle_receipts_length]
  · simp only [ApplyRun.settle_receipts_length]

/-- The receipts of a run over records, each of which gives one when its origin is the own position. -/
theorem foldl_receipts_length (own : Position) (f : ApplyRun → HeldRecord → ApplyRun)
    (hf : ∀ run r, (f run r).receipts.length = run.receipts.length + if r.origin == own then 1 else 0) (l : List HeldRecord)
    (run : ApplyRun) :
    (l.foldl f run).receipts.length = run.receipts.length + (l.filter fun r => r.origin == own).length := by
  induction l generalizing run with
  | nil => simp
  | cons r l ih =>
    rw [List.foldl_cons, ih, hf]
    cases h2 : (r.origin == own) <;> simp [h2]; omega

/-! ### The outbound queue -/

/-- The numbering of the records a CHANGES message takes (R13): record `i` has number `n` + `i`. -/
theorem numberRecords_eq (n : SeqNum) (e : Frame) (q : List OutRecord) :
    numberRecords n e q = q.mapIdx fun i r => ⟨r.change, .beingSent (n + BitVec.ofNat 8 i) e⟩ := by
  induction q generalizing n with
  | nil => rfl
  | cons r q ih =>
    rw [numberRecords, ih, List.mapIdx_cons]
    congr 1
    · simp
    · refine List.mapIdx_eq_mapIdx_iff.2 fun i _ => ?_
      rw [Nat.add_comm i 1, BitVec.ofNat_add, ← BitVec.add_assoc]
      rfl

@[simp] theorem numberRecords_length (n : SeqNum) (e : Frame) (q : List OutRecord) : (numberRecords n e q).length = q.length := by
  simp [numberRecords_eq]

/-- Every record of a queue is WAITING or BEING_SENT. -/
theorem sent_waiting_length (own : Position) (q : List OutRecord) :
    (sentRecords own q).length + (waitingRecords q).length = q.length := by
  induction q with
  | nil => rfl
  | cons r q ih => obtain ⟨c, st⟩ := r; cases st <;> simp [sentRecords, waitingRecords] at * <;> omega

/-- A queue of WAITING records holds no sent record. -/
theorem sentRecords_of_waiting (own : Position) (q : List OutRecord) (h : ∀ r ∈ q, r.status = .waiting) : sentRecords own q = [] := by
  induction q with
  | nil => rfl
  | cons r q ih =>
    have hr := h r (List.mem_cons_self ..)
    simp only [sentRecords, List.filterMap_cons, hr]
    exact ih fun x hx => h x (List.mem_cons_of_mem _ hx)

theorem waitingRecords_of_waiting (q : List OutRecord) (h : ∀ r ∈ q, r.status = .waiting) : waitingRecords q = q :=
  List.filter_eq_self.2 fun r hr => by simp [h r hr]

end Sys2Proof.Machine
end

