-- ==== Sys2Proof/Laws/Intake.lean ====
section
/-! SUPPORT. What the arrival of records at the schedule does (R86, R87), for any number of records: own records after a readback or on the
looped path, and the records of a CHANGES message. -/

namespace Sys2Proof.Machine

/-- A frame in window is the frame number + L (R86). -/
theorem eff_of_inWindow {frame eff : Frame} {lead : Byte} (h : (eff - frame).toNat = lead.toNat) : eff = plusLead frame lead := by
  have : eff - frame = lead.setWidth 16 := BitVec.eq_of_toNat_eq (by
    rw [h, BitVec.toNat_setWidth, Nat.mod_eq_of_lt]; have := lead.isLt; omega)
  rw [plusLead, ← this, BitVec.add_comm, BitVec.sub_add_cancel]

/-- E_lost moved twice to one frame is E_lost moved once. -/
@[simp] theorem laterFrame_twice (e f : Frame) : laterFrame (laterFrame e f) f = laterFrame e f := by
  unfold laterFrame
  by_cases h : frameAfter f e = true <;> simp [h]

theorem State.intake_append (rs : List HeldRecord) (r : HeldRecord) (s : State) :
    s.intake (rs ++ [r]) = (s.intake rs).take s.timer.frame s.cfg.lead r := by
  simp [State.intake]

/-- One record more is refused. -/
theorem State.withRecords_refused (rs : List HeldRecord) (r : HeldRecord) (s : State)
    (h : s.ctl.state = .listening ∨ s.ctl.state = .joining → s.snap.eLost.isSome = true) (hf : r.eff = s.frameLead)
    (hx : s.intake (rs ++ [r]) = { s.intake rs with refused := (s.intake rs).refused ++ [r] }) :
    s.withRecords (rs ++ [r]) = (s.withRecords rs).discardRecord r := by
  unfold State.discardRecord
  have own : (s.withRecords rs).own = s.own := rfl
  have st : (s.withRecords rs).ctl.state = s.ctl.state := rfl
  simp only [own, st]
  cases hs : s.ctl.state
  case listening =>
    obtain ⟨e, he⟩ := Option.isSome_iff_exists.1 (h (.inl hs))
    by_cases hr : (s.intake rs).refused = [] <;> by_cases ho : r.origin = s.own <;>
      simp [State.withRecords, State.addReceipts, hx, hs, hf, he, hr, ho, receiptOf]
  case joining =>
    obtain ⟨e, he⟩ := Option.isSome_iff_exists.1 (h (.inr hs))
    by_cases hr : (s.intake rs).refused = [] <;> by_cases ho : r.origin = s.own <;> by_cases hc : s.snap.coll = .collecting <;>
      simp [State.withRecords, State.addReceipts, State.abandon, hx, hs, hf, he, hr, ho, hc, receiptOf]
  all_goals
    by_cases ho : r.origin = s.own <;> simp [State.withRecords, State.addReceipts, hx, hs, ho, receiptOf]

/-- One record more (R86, R87). -/
theorem State.withRecords_append (rs : List HeldRecord) (r : HeldRecord) (s : State)
    (h : s.ctl.state = .listening ∨ s.ctl.state = .joining → s.snap.eLost.isSome = true) :
    s.withRecords (rs ++ [r]) = (s.withRecords rs).acceptRecord r := by
  unfold State.acceptRecord inWindow
  simp only [decide_eq_true_eq]
  by_cases hw : (r.eff - s.timer.frame).toNat = s.cfg.lead.toNat
  · rw [if_pos (show (r.eff - (s.withRecords rs).timer.frame).toNat = (s.withRecords rs).cfg.lead.toNat from hw)]
    by_cases hr : hasRoom r (s.intake rs).list = true
    · rw [if_pos (show hasRoom r (s.withRecords rs).sched.list = true from hr)]
      have : s.intake (rs ++ [r]) = { s.intake rs with list := insertHeld r (s.intake rs).list } := by
        rw [State.intake_append, Intake.take, if_neg (not_not.2 hw), if_pos ((hasRoom_iff _ _).1 hr)]
      simp only [State.withRecords, this]
    · rw [if_neg (show ¬hasRoom r (s.withRecords rs).sched.list = true from hr)]
      refine State.withRecords_refused rs r s h (eff_of_inWindow hw) ?_
      rw [State.intake_append, Intake.take, if_neg (not_not.2 hw), if_neg (fun h => hr ((hasRoom_iff _ _).2 h))]
  · rw [if_neg (show ¬(r.eff - (s.withRecords rs).timer.frame).toNat = (s.withRecords rs).cfg.lead.toNat from hw)]
    have : s.intake (rs ++ [r]) = { s.intake rs with outOfWindow := satInc (s.intake rs).outOfWindow } := by
      rw [State.intake_append, Intake.take, if_pos hw]
    simp only [State.withRecords, this]

/-- Records that arrive in order (R86, R87, R89). -/
theorem State.acceptRecords_eq (rs : List HeldRecord) (s : State)
    (h : s.ctl.state = .listening ∨ s.ctl.state = .joining → s.snap.eLost.isSome = true) :
    s.acceptRecords rs = s.withRecords rs := by
  induction rs using List.reverseRecOn with
  | nil => simp [State.acceptRecords, State.withRecords, State.intake]
  | append_singleton rs r ih =>
    rw [State.withRecords_append rs r s h, ← ih]
    simp [State.acceptRecords]

/-! ### The records of a CHANGES message -/

/-- The records of a CHANGES message of sender `k` with sequence mark `mark`, as they arrive (R84, R86). -/
def changesRecords (k : Position) (mark : SeqNum) (rs : List (Change × Frame)) : List HeldRecord :=
  rs.mapIdx fun i r => ⟨r.1, r.2, k, mark + BitVec.ofNat 8 i⟩

theorem changesRecords_cons (k : Position) (mark : SeqNum) (r : Change × Frame) (rs : List (Change × Frame)) :
    changesRecords k mark (r :: rs) = ⟨r.1, r.2, k, mark⟩ :: changesRecords k (mark + 1) rs := by
  unfold changesRecords
  rw [List.mapIdx_cons]
  congr 1
  · simp
  · refine List.mapIdx_eq_mapIdx_iff.2 fun i _ => ?_
    rw [Nat.add_comm i 1, BitVec.ofNat_add, ← BitVec.add_assoc]
    rfl

/-- A discard neither reads nor writes the roster. -/
theorem State.discardRecord_roster (r : HeldRecord) (s : State) (ro : Vector Entry 16) :
    State.discardRecord r { s with roster := ro } = { s.discardRecord r with roster := ro } := by
  have own : State.own { s with roster := ro } = s.own := rfl
  unfold State.discardRecord
  simp only [own]
  cases hs : s.ctl.state <;> by_cases ho : r.origin = s.own <;> by_cases hc : s.snap.coll = .collecting <;>
    simp [ho, hc, State.addReceipts, State.abandon]

/-- Acceptance neither reads nor writes the roster. -/
theorem State.acceptRecord_roster (r : HeldRecord) (s : State) (ro : Vector Entry 16) :
    State.acceptRecord r { s with roster := ro } = { s.acceptRecord r with roster := ro } := by
  unfold State.acceptRecord
  rw [State.discardRecord_roster]
  split <;> [split; skip] <;> rfl

theorem State.acceptRecords_roster (rs : List HeldRecord) (s : State) (ro : Vector Entry 16) :
    State.acceptRecords rs { s with roster := ro } = { s.acceptRecords rs with roster := ro } := by
  induction rs generalizing s with
  | nil => rfl
  | cons r rs ih => exact (congrArg _ (State.acceptRecord_roster r s ro)).trans (ih _)

theorem State.setExpected_accept (k : Position) (a b : SeqNum) (r : HeldRecord) (s : State) :
    ((s.setExpected k a).acceptRecord r).setExpected k b = (s.setExpected k b).acceptRecord r := by
  have h : ∀ n, s.setExpected k n = { s with roster := s.roster.set k { s.roster[k] with expected := some n } } := fun _ => rfl
  rw [h a, h b, State.acceptRecord_roster, State.acceptRecord_roster]
  simp only [State.setExpected, State.setEntry, Vector.set_set, Vector.getElem_set_self, Fin.getElem_fin]
  exact (State.acceptRecord_roster r s _).symm

/-- The records of a CHANGES message arrive in body order, and the sender's expected sequence goes past them (R84, R86, R87). -/
theorem State.takeRecords_eq (k : Position) (mark : SeqNum) (rs : List (Change × Frame)) (s : State) (hrs : rs ≠ []) :
    s.takeRecords k mark rs =
      (s.setExpected k (mark + BitVec.ofNat 8 rs.length)).acceptRecords (changesRecords k mark rs) := by
  induction rs generalizing s mark with
  | nil => exact absurd rfl hrs
  | cons r rs ih =>
    rw [State.takeRecords, changesRecords_cons]
    cases rest : rs with
    | nil => rfl
    | cons r' rs' =>
      rw [← rest, ih _ _ (by simp [rest]), State.setExpected_accept, List.length_cons, Nat.add_comm, BitVec.ofNat_add, ← BitVec.add_assoc]
      rfl

/-- A valid CHANGES message does what an IDLE with its header does, and then its records arrive when its sender's entry is MEMBER (R7,
R83). -/
theorem State.deliver_changes (m : Message) (rs : List (Change × Frame)) (s : State) (hb : m.body = .changes rs) (hm : m.state = .member)
    (hrs : rs ≠ []) :
    let t := s.deliver { m with body := .idle }
    s.deliver m =
      if t.roster[m.sender].state = .member then
        (t.setExpected m.sender (m.mark + BitVec.ofNat 8 rs.length)).acceptRecords (changesRecords m.sender m.mark rs)
      else t := by
  have h1 : s.rosterStep m = s.rosterStep { m with body := .idle } := by
    simp only [State.rosterStep, hb]
    rfl
  unfold State.deliver
  rw [h1]
  generalize s.rosterStep { m with body := .idle } = u
  have h2 : u.controllerStep (s.ctl.state == .member) m = u.controllerStep (s.ctl.state == .member) { m with body := .idle } := rfl
  rw [h2]
  generalize u.controllerStep (s.ctl.state == .member) { m with body := .idle } = v
  simp only [State.snapshotStep, State.scheduleStep, hb, hm, true_and]
  have h3 : (v.sequenceCheck m.sender m.mark).roster[m.sender].state = v.roster[m.sender].state := by
    unfold State.sequenceCheck
    split
    · rfl
    · simp only [State.gapEffect_keeps, State.setExpected, State.setEntry, Vector.getElem_set_self, Fin.getElem_fin]
  by_cases hv : v.roster[m.sender].state = .member
  · simp only [hv, if_true, h3, State.takeRecords_eq _ _ _ _ hrs]
  · simp only [hv, if_false]

/-! ### Own records -/

/-- A successful readback of a message that is no PART: the sent records leave the queue and arrive in body order (R15, R89). -/
theorem State.readbackSucceeded_eq (s : State) (hp : s.bus.alternation ≠ .part)
    (h : s.ctl.state = .listening ∨ s.ctl.state = .joining → s.snap.eLost.isSome = true) :
    s.readbackSucceeded = State.withRecords (sentRecords s.own s.sub.outbound)
      { s with bus.readback := .success, bus.runCount := 0, sub.outbound := waitingRecords s.sub.outbound } := by
  unfold State.readbackSucceeded
  simp only [if_neg hp]
  exact State.acceptRecords_eq _ _ h

end Sys2Proof.Machine
end

