-- ==== Sys2Proof/WellFormed.lean ====
section
/-! DEFINITION. Which terms of `Instr` are commands of the table: slot numbers, register places and fields are in range by their
types; two rows name a byte or an index only when it is not another row's. -/

namespace Sys2Proof

/-- The checks of a command: an unknown command byte names no command (R181), an ignored write is to an index whose class ignores writes
or that names no register (R178), and a configuration write carries at least one data byte and no more than its register's width
(R177, R178). -/
def Instr.wellFormed : Instr → Bool
  | .unknownCommand value => commandOfByte value == .unknownCommand value
  | .ignoredWrite index _ => writeIgnoredAt index
  | .configWrite reg bytes => decide (0 < bytes.length) && decide (bytes.length ≤ widthOf (.config reg))
  | .pinReset _ | .resetStation | .ownFrameTimerExpiry | .wbStrobeEdge _ | .strobeDriveEnd | .slotOpen _ | .ownSlotOpen
  | .transmitComplete | .slotClose _ | .messageReceived _ _ | .readback _ _ | .loopedHandover | .join | .leave | .loopback
  | .unloop | .clearFault | .submit | .stageWrite _ _ _ | .palIndexWrite _ | .palDataWrite _ | .palReadIndexWrite _
  | .palDataRead | .cursorRowIndexWrite _ | .cursorDataWrite _ | .cursorDataRead | .receiptRead | .submitStatusRead
  | .eventSetRead _ | .counterRead _ | .irqEnableWrite _ | .powerOn _ | .powerOff _ | .serviceLed _
  | .panelLineChange _ _ | .debounceExpiry _ | .powerGood | .powerGoodLost | .powerTimerExpiry | .ledBlinkToggle
  | .spiTransactionEnd => true

end Sys2Proof
end

