-- ==== Sys2Proof/Laws/PerInstr.lean ====
section
/-! SUPPORT. The family `Named`: every well-formed command of the control port is what some data byte of a transaction names by the register
map (R177, R178, R181). The other commands are events on pins, on the wall bus and of timers, and no transaction names them. -/

namespace Sys2Proof.Laws.Named

/-- The commands that a data byte of a register access is. -/
def onPort : Instr → Bool
  | .resetStation | .join | .leave | .loopback | .unloop | .clearFault | .submit | .unknownCommand _ | .stageWrite _ _ _
  | .palIndexWrite _ | .palDataWrite _ | .palReadIndexWrite _ | .palDataRead | .cursorRowIndexWrite _ | .cursorDataWrite _
  | .cursorDataRead | .receiptRead | .submitStatusRead | .eventSetRead _ | .counterRead _ | .configWrite _ _ | .irqEnableWrite _
  | .ignoredWrite _ _ | .powerOn _ | .powerOff _ | .serviceLed _ => true
  | .pinReset _ | .ownFrameTimerExpiry | .wbStrobeEdge _ | .strobeDriveEnd | .slotOpen _ | .ownSlotOpen | .transmitComplete
  | .slotClose _ | .messageReceived _ _ | .readback _ _ | .loopedHandover | .panelLineChange _ _ | .debounceExpiry _ | .powerGood
  | .powerGoodLost | .powerTimerExpiry | .ledBlinkToggle | .spiTransactionEnd => false

/-- Some data byte of a write or a read transaction is this command. -/
def named (i : Instr) : Prop :=
  (∃ index before value, writeCommand index before value = some i) ∨ ∃ index n, readCommand index n = some i

/-- A well-formed command of the control port is named by a data byte. -/
def Statement (i : Instr) : Prop := i.wellFormed = true → onPort i = true → named i

/-- A byte written to COMMAND (R181). -/
theorem named_command (value : Byte) : named (commandOfByte value) := .inl ⟨0x28, [], value, rfl⟩

/-- A byte written to SERVICE_CONTROL (R170). -/
theorem named_service (value : Byte) : named (serviceOfByte value) := .inl ⟨0x29, [], value, rfl⟩

/-- The index of a STAGE register names it (Table 13-8). -/
theorem registerAt_stage : ∀ k : Fin 14, registerAt (indexOf (.stage k)) = some (.stage k) := by decide

/-- The index of a configuration register names it. -/
theorem registerAt_config : ∀ reg : ConfigReg, registerAt (indexOf (.config reg)) = some (.config reg)
  | .tile => rfl
  | .wall => rfl

/-- An index that ignores writes makes a byte an ignored write (R178). -/
theorem writeCommand_ignored (index : BitVec 7) (value : Byte) (h : writeIgnoredAt index = true) :
    writeCommand index [] value = some (.ignoredWrite index value) := by
  unfold writeIgnoredAt at h
  unfold writeCommand
  cases hr : registerAt index with
  | none => rfl
  | some r => cases r <;> simp [hr, classOf] at h ⊢

/-- A power field of ON with each LED field. -/
theorem service_powerOn : ∀ led : BitVec 3, serviceOfByte ((led.setWidth 8 <<< 2) ||| 1) = .powerOn led := by decide

/-- A power field of OFF with each LED field. -/
theorem service_powerOff : ∀ led : BitVec 3, serviceOfByte ((led.setWidth 8 <<< 2) ||| 2) = .powerOff led := by decide

/-- A power field of NO_CHANGE with each LED field. -/
theorem service_led : ∀ led : BitVec 3, serviceOfByte (led.setWidth 8 <<< 2) = .serviceLed led := by decide

theorem pinReset (_pins : ResetPins) : Statement (.pinReset _pins) := fun _ h => nomatch h

theorem resetStation : Statement (.resetStation) := fun _ _ => named_command 0x5A

theorem ownFrameTimerExpiry : Statement (.ownFrameTimerExpiry) := fun _ h => nomatch h

theorem wbStrobeEdge (_reading : Ticks) : Statement (.wbStrobeEdge _reading) := fun _ h => nomatch h

theorem strobeDriveEnd : Statement (.strobeDriveEnd) := fun _ h => nomatch h

theorem slotOpen (_slot : Position) : Statement (.slotOpen _slot) := fun _ h => nomatch h

theorem ownSlotOpen : Statement (.ownSlotOpen) := fun _ h => nomatch h

theorem transmitComplete : Statement (.transmitComplete) := fun _ h => nomatch h

theorem slotClose (_slot : Position) : Statement (.slotClose _slot) := fun _ h => nomatch h

theorem messageReceived (_bytes : List Byte) (_stopBit : Bool) : Statement (.messageReceived _bytes _stopBit) := fun _ h => nomatch h

theorem readback (_bytes : List Byte) (_stopBit : Bool) : Statement (.readback _bytes _stopBit) := fun _ h => nomatch h

theorem loopedHandover : Statement (.loopedHandover) := fun _ h => nomatch h

theorem join : Statement (.join) := fun _ _ => named_command 1

theorem leave : Statement (.leave) := fun _ _ => named_command 2

theorem loopback : Statement (.loopback) := fun _ _ => named_command 3

theorem unloop : Statement (.unloop) := fun _ _ => named_command 4

theorem clearFault : Statement (.clearFault) := fun _ _ => named_command 5

theorem submit : Statement (.submit) := fun _ _ => named_command 6

theorem unknownCommand (value : Byte) : Statement (.unknownCommand value) := by
  intro h _
  rw [← eq_of_beq (show (commandOfByte value == Instr.unknownCommand value) = true from h)]
  exact named_command value

theorem stageWrite (reg : Fin 14) (n : Nat) (value : Byte) : Statement (.stageWrite reg n value) := fun _ _ =>
  .inl ⟨indexOf (.stage reg), List.replicate n 0, value, by simp [writeCommand, registerAt_stage]⟩

theorem palIndexWrite (value : Byte) : Statement (.palIndexWrite value) := fun _ _ => .inl ⟨0x30, [], value, rfl⟩

theorem palDataWrite (value : Byte) : Statement (.palDataWrite value) := fun _ _ => .inl ⟨0x31, [], value, rfl⟩

theorem palReadIndexWrite (value : Byte) : Statement (.palReadIndexWrite value) := fun _ _ => .inl ⟨0x32, [], value, rfl⟩

theorem palDataRead : Statement (.palDataRead) := fun _ _ => .inr ⟨0x31, 0, rfl⟩

theorem cursorRowIndexWrite (value : Byte) : Statement (.cursorRowIndexWrite value) := fun _ _ => .inl ⟨0x33, [], value, rfl⟩

theorem cursorDataWrite (value : Byte) : Statement (.cursorDataWrite value) := fun _ _ => .inl ⟨0x34, [], value, rfl⟩

theorem cursorDataRead : Statement (.cursorDataRead) := fun _ _ => .inr ⟨0x34, 0, rfl⟩

theorem receiptRead : Statement (.receiptRead) := fun _ _ => .inr ⟨0x2A, 0, rfl⟩

theorem submitStatusRead : Statement (.submitStatusRead) := fun _ _ => .inr ⟨0x05, 0, rfl⟩

theorem eventSetRead (set : EventSet) : Statement (.eventSetRead set) := fun _ _ => .inr ⟨indexOf (.events set), 0, by cases set <;> rfl⟩

theorem counterRead (counter : CounterName) : Statement (.counterRead counter) := fun _ _ => .inr ⟨indexOf (.counter counter), 0, by cases counter <;> rfl⟩

theorem configWrite (reg : ConfigReg) (bytes : List Byte) : Statement (.configWrite reg bytes) := by
  intro h _
  simp only [Instr.wellFormed, Bool.and_eq_true, decide_eq_true_eq] at h
  have hne : bytes ≠ [] := List.ne_nil_of_length_pos h.1
  refine .inl ⟨indexOf (.config reg), bytes.dropLast, bytes.getLast hne, ?_⟩
  have hl : bytes.dropLast.length < widthOf (.config reg) := by rw [List.length_dropLast]; omega
  simp only [writeCommand, registerAt_config, if_pos hl, List.dropLast_append_getLast hne]

theorem irqEnableWrite (value : Byte) : Statement (.irqEnableWrite value) := fun _ _ => .inl ⟨0x22, [], value, rfl⟩

theorem ignoredWrite (index : BitVec 7) (value : Byte) : Statement (.ignoredWrite index value) := fun h _ => .inl ⟨index, [], value, writeCommand_ignored index value h⟩

theorem powerOn (led : BitVec 3) : Statement (.powerOn led) := fun _ _ => service_powerOn led ▸ named_service _

theorem powerOff (led : BitVec 3) : Statement (.powerOff led) := fun _ _ => service_powerOff led ▸ named_service _

theorem serviceLed (led : BitVec 3) : Statement (.serviceLed led) := fun _ _ => service_led led ▸ named_service _

theorem panelLineChange (_input : PanelInput) (_level : Bool) : Statement (.panelLineChange _input _level) := fun _ h => nomatch h

theorem debounceExpiry (_input : PanelInput) : Statement (.debounceExpiry _input) := fun _ h => nomatch h

theorem powerGood : Statement (.powerGood) := fun _ h => nomatch h

theorem powerGoodLost : Statement (.powerGoodLost) := fun _ h => nomatch h

theorem powerTimerExpiry : Statement (.powerTimerExpiry) := fun _ h => nomatch h

theorem ledBlinkToggle : Statement (.ledBlinkToggle) := fun _ h => nomatch h

theorem spiTransactionEnd : Statement (.spiTransactionEnd) := fun _ h => nomatch h

end Sys2Proof.Laws.Named
end

