-- ==== Sys2Proof/Laws/SpiPins.lean ====
section
/-! SUPPORT. What one edge and one whole byte do on the pins of the control port: bits make up their byte, nothing happens unselected, and a
byte clocked in whole is taken once. -/

namespace Sys2Proof.Machine

@[simp] theorem Port.inTransaction_fields (t : Transaction) (out : List Byte) (p : Port) :
    (p.inTransaction t out).selected = true ∧ (p.inTransaction t out).transaction = some t ∧ (p.inTransaction t out).shift = p.shift ∧
      (p.inTransaction t out).data = p.data ∧ (p.inTransaction t out).out = out := ⟨rfl, rfl, rfl, rfl, rfl⟩

@[simp] theorem State.spiSelect_keeps (s : State) :
    s.spiSelect.straps = s.straps ∧ s.spiSelect.cfg = s.cfg ∧ s.spiSelect.bus = s.bus ∧ s.spiSelect.timer = s.timer ∧
      s.spiSelect.ctl = s.ctl ∧ s.spiSelect.roster = s.roster ∧ s.spiSelect.sub = s.sub ∧ s.spiSelect.sched = s.sched ∧
      s.spiSelect.obj = s.obj ∧ s.spiSelect.shows = s.shows ∧ s.spiSelect.snap = s.snap ∧ s.spiSelect.comp = s.comp ∧
      s.spiSelect.svc = s.svc ∧ s.spiSelect.events = s.events ∧ s.spiSelect.pending = s.pending := by
  refine ⟨?_, ?_, ?_, ?_, ?_, ?_, ?_, ?_, ?_, ?_, ?_, ?_, ?_, ?_, ?_⟩ <;> rfl

/-- A byte is the byte of its bits. -/
@[simp] theorem byteOfBits_bitsOfByte (b : Byte) : byteOfBits (bitsOfByte b) = b := by
  revert b; decide +kernel

/-- Edges while SPI_CS_N is high change nothing. -/
theorem State.spiClock_of_not_selected (x : Bool) (s : State) (h : s.port.selected = false) : s.spiClock x = s := by
  simp [State.spiClock, h]

/-- Within a byte no read begins. -/
theorem State.beginByte_of_shift (s : State) (h : s.port.shift ≠ []) : s.beginByte = s := by
  unfold State.beginByte
  split <;> simp [h]

/-- An edge that does not end a byte leaves its bit in the port. -/
theorem State.spiClock_within (x : Bool) (s : State) (h : s.port.selected = true) (hlen : s.beginByte.port.shift.length < 7) :
    s.spiClock x = { s.beginByte with port.shift := s.beginByte.port.shift ++ [x] } := by
  have hlt : (s.beginByte.port.shift ++ [x]).length < 8 := by simp only [List.length_append, List.length_singleton]; omega
  simp only [State.spiClock, h, if_true, hlt]

/-- The edge that ends a byte takes it. -/
theorem State.spiClock_last (x : Bool) (s : State) (h : s.port.selected = true) (hlen : s.port.shift.length = 7) :
    s.spiClock x = State.spiByte (byteOfBits (s.port.shift ++ [x])) { s with port.shift := [] } := by
  have hb : s.beginByte = s := s.beginByte_of_shift (by intro h0; simp [h0] at hlen)
  simp [State.spiClock, h, hb, hlen]

/-- Edges within a byte that has begun leave their bits in the port. -/
theorem State.foldl_spiClock_within (bits : List Bool) (s : State) (h : s.port.selected = true) (h0 : s.port.shift ≠ [])
    (hlen : s.port.shift.length + bits.length < 8) :
    bits.foldl (fun u x => u.spiClock x) s = { s with port.shift := s.port.shift ++ bits } := by
  induction bits generalizing s with
  | nil => simp
  | cons x rest ih =>
    have hb := s.beginByte_of_shift h0
    rw [List.length_cons] at hlen
    rw [List.foldl_cons, s.spiClock_within x h (by rw [hb]; omega), hb,
      ih _ (by exact h) (by simp) (by simp only [List.length_append, List.length_singleton]; omega)]
    simp

/-- The bits of a byte: the first, the six after it, and the last. -/
theorem bitsOfByte_eq (b : Byte) :
    bitsOfByte b = b.getMsbD 0 :: ((List.range 6).map (fun j => b.getMsbD (j + 1)) ++ [b.getMsbD 7]) := rfl

/-- A whole byte: the read that begins with it, if any, and then the byte taken once. -/
theorem State.spiShift_eq (b : Byte) (s : State) (h : s.port.selected = true) (h' : s.beginByte.port.selected = true)
    (hshift : s.beginByte.port.shift = []) : s.spiShift b = s.beginByte.spiByte b := by
  have hbits := byteOfBits_bitsOfByte b
  rw [bitsOfByte_eq] at hbits
  rw [State.spiShift, bitsOfByte_eq, List.foldl_cons, List.foldl_append, s.spiClock_within _ h (by simp [hshift]),
    State.foldl_spiClock_within ((List.range 6).map _) _ (by exact h') (by simp) (by simp [hshift]), List.foldl_cons, List.foldl_nil,
    State.spiClock_last _ _ (by exact h') (by simp [hshift])]
  simp only [hshift, List.nil_append, List.cons_append] at hbits ⊢
  rw [hbits]
  congr 1
  rw [← hshift]

end Sys2Proof.Machine
end

