-- ==== Sys2Proof/Laws/StrobeDrive.lean ====
section
/-! SUPPORT. No block reads the drive of WB_STROBE: a frame start does the same whether its own pulse is driven or not (R21-R23). -/

namespace Sys2Proof.Machine

/-- The state with WB_STROBE released, and another time since its last drive. -/
def State.released (e : Ticks) (s : State) : State := { s with timer.driving := false, timer.driveElapsed := e }

/-- An operation that neither reads the drive nor begins one: a release of the line before it is a release after it. -/
def IgnoresDrive (f : State → State) : Prop := ∀ s e, f (s.released e) = (f s).released e

/-! ### How such operations compose -/

theorem IgnoresDrive.comp {f g : State → State} (hg : IgnoresDrive g) (hf : IgnoresDrive f) : IgnoresDrive fun s => g (f s) :=
  fun s e => (congrArg g (hf s e)).trans (hg (f s) e)

/-- An operation chosen by something read from the state. -/
theorem IgnoresDrive.choose {β : Type} (read : State → β) (f : β → State → State) (h : ∀ b, IgnoresDrive (f b))
    (hr : ∀ s e, read (s.released e) = read s := by exact fun _ _ => rfl) : IgnoresDrive fun s => f (read s) s := fun s e => by
  show f (read (s.released e)) (s.released e) = (f (read s) s).released e
  rw [hr s e, h (read s) s]

theorem IgnoresDrive.ite {c : State → Prop} [∀ s, Decidable (c s)] {f g : State → State} (hf : IgnoresDrive f) (hg : IgnoresDrive g)
    (hc : ∀ s e, c (s.released e) ↔ c s := by exact fun _ _ => Iff.rfl) : IgnoresDrive fun s => if c s then f s else g s := fun s e => by
  by_cases h : c s
  · simp only [if_pos h, if_pos ((hc s e).2 h)]; exact hf s e
  · simp only [if_neg h, if_neg fun h' => h ((hc s e).1 h')]; exact hg s e

theorem IgnoresDrive.foldl {α : Type} {f : State → α → State} (h : ∀ a, IgnoresDrive fun s => f s a) (l : List α) :
    IgnoresDrive fun s => l.foldl f s := by
  induction l with
  | nil => exact fun _ _ => rfl
  | cons a l ih => exact ih.comp (h a)

theorem ignoresDrive_id : IgnoresDrive fun s => s := fun _ _ => rfl

/-! ### The operations of a frame start -/

theorem ignoresDrive_countBad : IgnoresDrive State.countBad := .ite ignoresDrive_id fun _ _ => rfl
theorem ignoresDrive_abandon : IgnoresDrive State.abandon := .ite (fun _ _ => rfl) ignoresDrive_id
theorem ignoresDrive_changeState (n : StationState) : IgnoresDrive (State.changeState n) := fun s e => by
  simp [State.changeState, State.released]
theorem ignoresDrive_enterFault (r : FaultReason) : IgnoresDrive (State.enterFault r) :=
  IgnoresDrive.comp (g := fun s => { State.changeState .fault s with ctl.faultReason := r, events.fault := true })
    (fun s e => by simp [State.changeState, State.released]) (f := State.clearWallSide) fun _ _ => rfl
theorem ignoresDrive_enterOffline : IgnoresDrive State.enterOffline :=
  IgnoresDrive.comp (g := fun s => { State.changeState .offline s with ctl.memberHeard := false })
    (fun s e => by simp [State.changeState, State.released]) (f := State.clearWallSide) fun _ _ => rfl
theorem ignoresDrive_resync (c : ResyncCause) : IgnoresDrive (State.resync c) := fun s e => by
  simp [State.resync, State.changeState, State.released, State.frameLead]
theorem ignoresDrive_updateEntry (k : Position) (e : Entry) : IgnoresDrive (State.updateEntry k e) :=
  have h : IgnoresDrive fun s => (s.setEntry k e).raiseRosterChanged := fun _ _ => rfl
  .ite (fun _ _ => rfl) (.ite (ignoresDrive_abandon.comp h) h)
theorem ignoresDrive_ageEntry (k : Position) : IgnoresDrive (State.ageEntry k) :=
  .choose (fun s => (s.roster[k], s.cfg))
    (fun x s =>
      let miss := min 15 (x.1.miss + 1)
      if x.2.silence.toNat ≤ miss ∧ x.1.state ≠ .absent then s.updateEntry k ⟨.absent, miss, x.1.expected, none⟩
      else s.setEntry k { x.1 with miss := miss })
    fun x => .ite (ignoresDrive_updateEntry _ _) fun _ _ => rfl
theorem ignoresDrive_closePeerSlot (k : Position) : IgnoresDrive (State.closePeerSlot k) :=
  have h : IgnoresDrive fun s => if s.bus.attempt = .receiving then s.countBad else s := .ite ignoresDrive_countBad ignoresDrive_id
  .ite ((ignoresDrive_ageEntry k).comp h) h
theorem ignoresDrive_acceptRecord (r : HeldRecord) : IgnoresDrive (State.acceptRecord r) :=
  have receipted : IgnoresDrive fun s => if r.origin = s.own then s.addReceipts [receiptOf r .discardedFull] else s :=
    .ite (fun _ _ => rfl) ignoresDrive_id
  .ite (.ite (fun _ _ => rfl)
    (.choose (fun s => s.ctl.state)
      (fun st s =>
        let receipted := if r.origin = s.own then s.addReceipts [receiptOf r .discardedFull] else s
        match st with
        | .joining =>
          let a := receipted.abandon
          { a with snap.eLost := some ((a.snap.eLost.map fun e => laterFrame e r.eff).getD r.eff) }
        | .listening =>
          { receipted with snap.eLost := some ((receipted.snap.eLost.map fun e => laterFrame e r.eff).getD r.eff) }
        | .offline | .member | .leaving | .fault | .loopback => receipted)
      fun st => by
        cases st
        case joining =>
          exact IgnoresDrive.comp
            (g := fun a : State => { a with snap.eLost := some ((a.snap.eLost.map fun e => laterFrame e r.eff).getD r.eff) })
            (fun _ _ => rfl) (ignoresDrive_abandon.comp receipted)
        case listening =>
          exact IgnoresDrive.comp
            (g := fun a : State => { a with snap.eLost := some ((a.snap.eLost.map fun e => laterFrame e r.eff).getD r.eff) })
            (fun _ _ => rfl) receipted
        all_goals exact receipted))
    fun _ _ => rfl
theorem ignoresDrive_readbackSucceeded : IgnoresDrive State.readbackSucceeded :=
  have partSent : IgnoresDrive State.partSent := .ite (.ite (fun _ _ => rfl) fun _ _ => rfl) ignoresDrive_id
  have taken : IgnoresDrive fun s =>
      let sent := sentRecords s.own s.sub.outbound
      let cleared : State :=
        { s with bus.readback := .success, bus.runCount := 0, sub.outbound := waitingRecords s.sub.outbound }
      cleared.acceptRecords sent :=
    .choose (fun s => sentRecords s.own s.sub.outbound)
      (fun sent s => State.acceptRecords sent
        { s with bus.readback := .success, bus.runCount := 0, sub.outbound := waitingRecords s.sub.outbound })
      fun sent => IgnoresDrive.comp (g := State.acceptRecords sent) (IgnoresDrive.foldl ignoresDrive_acceptRecord sent)
        (f := fun s => { s with bus.readback := .success, bus.runCount := 0, sub.outbound := waitingRecords s.sub.outbound }) fun _ _ => rfl
  .ite (partSent.comp taken) taken
theorem ignoresDrive_readbackFailed : IgnoresDrive State.readbackFailed :=
  have settled : IgnoresDrive fun s : State =>
      { s with
        bus.readback := .failure
        bus.runCount := s.bus.runCount + 1
        sub.outbound := waitingRecords s.sub.outbound
        sub.receipts := s.sub.receipts ++ (sentRecords s.own s.sub.outbound).map fun r => receiptOf r .uncertain } := fun _ _ => rfl
  .ite ((ignoresDrive_enterFault _).comp settled) (.ite ((ignoresDrive_resync _).comp settled) settled)
theorem ignoresDrive_closeOwnSlot : IgnoresDrive State.closeOwnSlot :=
  .choose (fun s => s.bus.awaiting)
    (fun a s =>
      match a with
      | .pair => State.readbackFailed { s with bus.awaiting := .none, bus.attempt := .ended }
      | .looped => s.handOver
      | .none => if s.bus.attempt = .receiving ∧ transmits s.ctl.state = false then s.countBad else s)
    fun a => by
      cases a
      · exact .ite ignoresDrive_countBad ignoresDrive_id
      · exact ignoresDrive_readbackFailed.comp (f := fun s => { s with bus.awaiting := .none, bus.attempt := .ended }) fun _ _ => rfl
      · exact ignoresDrive_readbackSucceeded.comp (f := fun s => { s with bus.awaiting := .none, bus.sending := false }) fun _ _ => rfl
theorem ignoresDrive_closeSlot (k : Position) : IgnoresDrive (State.closeSlot k) :=
  IgnoresDrive.comp (g := State.windowClosed k) (fun _ _ => rfl) (.ite ignoresDrive_closeOwnSlot (ignoresDrive_closePeerSlot k))
theorem ignoresDrive_endFrame : IgnoresDrive State.endFrame :=
  have close : IgnoresDrive State.closeOpenSlot :=
    .choose (fun s => s.timer.openSlot)
      (fun o s => match o with | none => s | some k => s.closeSlot k)
      fun o => by cases o; exacts [ignoresDrive_id, ignoresDrive_closeSlot _]
  IgnoresDrive.comp (g := fun s => if s.bus.attempt = .receiving then State.countBad { s with bus.attempt := .ended } else s)
    (.ite (ignoresDrive_countBad.comp (f := fun s => { s with bus.attempt := .ended }) fun _ _ => rfl) ignoresDrive_id) close
theorem ignoresDrive_removeLeavers : IgnoresDrive State.removeLeavers :=
  .foldl (fun k => .choose (fun s => s.roster[k])
      (fun e s =>
        if k ≠ s.own ∧ leaveFrameCome s.timer.frame e = true then
          s.updateEntry k { e with state := .absent, expected := none, leaveFrame := none }
        else s)
      fun e => .ite (ignoresDrive_updateEntry _ _) ignoresDrive_id)
    (List.finRange 16)
theorem ignoresDrive_reportObjects (w c : Bool) : IgnoresDrive (State.reportObjects w c) := by
  cases w <;> cases c <;> exact fun _ _ => rfl
theorem ignoresDrive_frameWork : IgnoresDrive State.frameWork :=
  have h : IgnoresDrive fun s =>
      let run := applyRunAt s
      let s1 : State :=
        { s with
          obj := run.obj
          shows := sendWord (showWork run)
          sched.list := notDueAt s.timer.frame s.sched.list
          sub.receipts := s.sub.receipts ++ run.receipts
          events.frame.recordsApplied := s.events.frame.recordsApplied || !(dueAt s.timer.frame s.sched.list).isEmpty }
      s1.reportObjects run.windows run.cursor :=
    .choose applyRunAt
      (fun run s => State.reportObjects run.windows run.cursor
        { s with
          obj := run.obj
          shows := sendWord (showWork run)
          sched.list := notDueAt s.timer.frame s.sched.list
          sub.receipts := s.sub.receipts ++ run.receipts
          events.frame.recordsApplied := s.events.frame.recordsApplied || !(dueAt s.timer.frame s.sched.list).isEmpty })
      fun run => IgnoresDrive.comp (ignoresDrive_reportObjects run.windows run.cursor)
        (f := fun s => { s with
          obj := run.obj
          shows := sendWord (showWork run)
          sched.list := notDueAt s.timer.frame s.sched.list
          sub.receipts := s.sub.receipts ++ run.receipts
          events.frame.recordsApplied := s.events.frame.recordsApplied || !(dueAt s.timer.frame s.sched.list).isEmpty })
        fun _ _ => rfl
  .ite h (IgnoresDrive.comp (g := State.reportShow) (fun _ _ => rfl) h)
theorem ignoresDrive_dropHeld : IgnoresDrive State.dropHeld :=
  .choose State.dropBoundNow
    (fun b s => { s.dropUpTo b with sched.dropBound := some b }) fun _ _ _ => rfl
theorem ignoresDrive_ageELost : IgnoresDrive State.ageELost :=
  .choose (fun s => s.snap.eLost)
    (fun l s =>
      match l with
      | none => s
      | some e =>
        if 16384 ≤ (s.timer.frame - e).toNat ∧ (s.timer.frame - e).toNat ≤ 32767 then
          { s with snap.eLost := some (s.timer.frame - 1) }
        else s)
    fun l => by cases l; exacts [ignoresDrive_id, .ite (fun _ _ => rfl) ignoresDrive_id]
theorem ignoresDrive_found : IgnoresDrive State.found :=
  IgnoresDrive.comp (g := fun s => State.takeDefaults { s with sched.list := [] }) (fun _ _ => rfl) (ignoresDrive_changeState .member)
theorem ignoresDrive_countListening : IgnoresDrive State.countListening :=
  have s' : IgnoresDrive fun s : State => { s with ctl.countdown := s.ctl.countdown - 1 } := fun _ _ => rfl
  have joins : IgnoresDrive fun s => { s.changeState .joining with ctl.joinReason := .new } := fun s e => by
    simp [State.changeState, State.released]
  .ite (IgnoresDrive.comp (g := State.endListening) (.ite joins ignoresDrive_found) s') s'
theorem ignoresDrive_leaveDone : IgnoresDrive State.leaveDone :=
  have s' : IgnoresDrive fun s => s.sendDeferredWord.enterOffline :=
    ignoresDrive_enterOffline.comp (f := State.sendDeferredWord) fun _ _ => rfl
  .ite (IgnoresDrive.comp (g := fun s => { s with svc := reportLeaveDone s.svc }) (fun _ _ => rfl) s') s'

/-- The work of the blocks at a frame start. -/
theorem ignoresDrive_blockWork : IgnoresDrive State.blockWork :=
  have word : IgnoresDrive State.sendDeferredWord := fun _ _ => rfl
  have joining : IgnoresDrive State.joiningFrame :=
    ignoresDrive_ageELost.comp (ignoresDrive_dropHeld.comp (ignoresDrive_removeLeavers.comp word))
  have stream : IgnoresDrive State.startStream := .ite (fun _ _ => rfl) ignoresDrive_id
  have work : IgnoresDrive fun s => s.removeLeavers.frameWork := ignoresDrive_frameWork.comp ignoresDrive_removeLeavers
  .choose (fun s => s.ctl.state)
    (fun st s =>
      match st with
      | .offline | .fault => s.sendDeferredWord
      | .listening => s.listeningFrame
      | .joining => s.joiningFrame
      | .member => s.memberFrame
      | .leaving => s.leavingFrame
      | .loopback => s.frameWork)
    fun st => by
      cases st
      · exact word
      · exact ignoresDrive_countListening.comp joining
      · exact joining
      · exact stream.comp work
      · exact .ite ignoresDrive_leaveDone work
      · exact word
      · exact ignoresDrive_frameWork

theorem ignoresDrive_frameStart : IgnoresDrive (State.frameStart false) :=
  have timer : IgnoresDrive (State.startTimer false) := fun s e => by simp [State.startTimer, State.released]
  IgnoresDrive.comp (g := fun u => (State.evaluateOutput u).openWindow 0) (fun _ _ => rfl)
    (ignoresDrive_blockWork.comp (timer.comp ignoresDrive_endFrame))

/-- A frame start by an edge is the frame start of an own expiry, but for the drive (R21, R22, R23). -/
theorem State.frameStart_edge (s : State) (e : Ticks) : (s.released e).frameStart false = (s.frameStart true).released e := by
  have rest : IgnoresDrive fun u => (u.blockWork.evaluateOutput).openWindow 0 :=
    IgnoresDrive.comp (g := fun u => (State.evaluateOutput u).openWindow 0) (fun _ _ => rfl) ignoresDrive_blockWork
  rw [ignoresDrive_frameStart]
  show (((s.endFrame.startTimer false).blockWork.evaluateOutput).openWindow 0).released e =
    (((s.endFrame.startTimer true).blockWork.evaluateOutput).openWindow 0).released e
  rw [← rest, ← rest]
  rfl

end Sys2Proof.Machine
end

