-- ==== Sys2Proof/Laws/WallSide.lean ====
section
/-! SUPPORT. What a clear of the wall side leaves in the submission unit (R34, R53, R75). -/

namespace Sys2Proof.Machine

/-- The number a WAITING record takes when `k` WAITING records stand before it (R75). -/
theorem waitingNumber_succ (seq : SeqNum) (k : Nat) : seq + BitVec.ofNat 8 (k + 1) = seq + 1 + BitVec.ofNat 8 k := by
  rw [Nat.add_comm, BitVec.ofNat_add, BitVec.add_assoc]
  rfl

/-- The NOT_SENT receipts, record by record, and the counter after them (R75). -/
theorem notSentReceipts_spec (seq : SeqNum) (q : List OutRecord) :
    notSentReceipts seq q =
      (q.mapIdx (fun i r =>
        let n := match r.status with
          | .beingSent n _ => n
          | .waiting => seq + BitVec.ofNat 8 ((q.take i).countP fun x => x.status == .waiting)
        ⟨n, r.change.kind, .notSent, none⟩),
      seq + BitVec.ofNat 8 (q.countP fun x => x.status == .waiting)) := by
  induction q generalizing seq with
  | nil => simp [notSentReceipts]
  | cons r rest ih =>
    obtain ⟨c, st⟩ := r
    cases st with
    | beingSent n f => simp [notSentReceipts, ih, List.mapIdx_cons]
    | waiting =>
      rw [notSentReceipts, ih]
      simp only [List.mapIdx_cons, List.take_succ_cons, List.countP_cons, beq_self_eq_true, if_true, waitingNumber_succ]
      simp

/-- The submission unit after a clear of the wall side. -/
theorem State.clearWallSide_sub (s : State) : (s.clearWallSide).sub = s.subCleared := by
  unfold State.clearWallSide State.subCleared State.clearedReceipts State.clearOutbound
  simp only [notSentReceipts_spec]
  unfold State.clearPendingList
  rw [← List.append_assoc]
  rfl

theorem State.enterOffline_sub (s : State) : (s.enterOffline).sub = s.subCleared := s.clearWallSide_sub

theorem State.enterFault_sub (reason : FaultReason) (s : State) : (s.enterFault reason).sub = s.subCleared := s.clearWallSide_sub

end Sys2Proof.Machine
end

