-- ==== Sys2Proof/Tests/Slice0.lean ====
section
/-! SUPPORT. Tests of the model's own text: ill-formed terms, bytes written out from the formats, single steps of the manual's examples, and
for every statement with hypotheses a state and operands that meet them. -/

/-! The theorems of this file are elaborated one after another: each evaluates a large state, and many at once fill the memory. -/

set_option Elab.async false

namespace Sys2Proof.Tests

open Sys2Proof.Machine

/-! ### Well-formedness: each check refuses an ill-formed term -/

theorem test_wellFormed_commandByte :
    (Instr.unknownCommand 1).wellFormed = false ∧ (Instr.unknownCommand 0x5A).wellFormed = false ∧
      (Instr.unknownCommand 0).wellFormed = true ∧ (Instr.unknownCommand 7).wellFormed = true := by decide

theorem test_wellFormed_ignoredIndex :
    (Instr.ignoredWrite 0x28 0).wellFormed = false ∧ (Instr.ignoredWrite 0x20 0).wellFormed = false ∧
      (Instr.ignoredWrite 0x4D 0).wellFormed = false ∧ (Instr.ignoredWrite 0x4E 0).wellFormed = true ∧
      (Instr.ignoredWrite 0x2A 0).wellFormed = true ∧ (Instr.ignoredWrite 0x7F 0).wellFormed = true := by decide

theorem test_wellFormed_configBytes :
    (Instr.configWrite .tile []).wellFormed = false ∧ (Instr.configWrite .tile [0, 0, 0, 0, 0]).wellFormed = false ∧
      (Instr.configWrite .tile [0, 0, 0, 0]).wellFormed = true ∧ (Instr.configWrite .wall [0, 0, 0, 0, 0]).wellFormed = true := by
  decide

/-! ### Formats -/

/-- The register map names each register by its own index, and no two alike. -/
theorem test_registerMap :
    registerAt 0x00 = some .stationStatus ∧ registerAt 0x0D = some .windowsLive ∧ registerAt 0x0E = none ∧
      registerAt 0x14 = some (.events .frame) ∧ registerAt 0x1A = some (.counter .outOfWindow) ∧ registerAt 0x2A = some .receipt ∧
      registerAt 0x40 = some (.stage 0) ∧ registerAt 0x4D = some (.stage 13) ∧ registerAt 0x4E = none := by decide

/-- The check field of the nine ASCII digits, the usual check of this CRC (polynomial 1021h from FFFFh, no inversion). -/
theorem test_crc16 : crc16 [0x31, 0x32, 0x33, 0x34, 0x35, 0x36, 0x37, 0x38, 0x39] = 0x29B1 := by decide +kernel

/-- The message of Table 5-5: station 2, frame 500, mark 90, PALETTE 17 (200, 40, 10) for frame 503, stations 0 to 3 MEMBER. -/
def paletteMessage : Message := ⟨2, .member, 500, 0x000F, 90, .changes [(.palette 17 ⟨200, 40, 10⟩, 503)]⟩

/-- Its header and body byte by byte (Tables 13-1 to 13-3), 17 bytes with the check field. -/
theorem test_messageBytes :
    messageCore paletteMessage = [0x32, 3, 0xF4, 0x01, 0x0F, 0x00, 90, 7, 1, 0xF7, 0x01, 17, 200, 40, 10] ∧
      (messageBytes paletteMessage).length = 17 ∧ parseMessage 2 (messageBytes paletteMessage) = some paletteMessage ∧
      parseMessage 3 (messageBytes paletteMessage) = none := by decide +kernel

/-- A flipped bit fails the check field, and a body length of 73 ends the attempt at the header. -/
theorem test_messageRefused :
    parseMessage 2 ((messageBytes paletteMessage).set 9 0xF6) = none ∧
      takeRun [] [0x32, 3, 0, 0, 0, 0, 0, 73, 1, 2] true = ([0x32, 3, 0, 0, 0, 0, 0, 73], .invalid) := by decide +kernel

/-- A staged window record: id 2, present, source 3, layer 1, (16, 8), 64 × 32, pans 0x123 and 0x456 (Table 13-3). -/
theorem test_stagedWindow :
    stagedChange #v[5, 0x12, 0x13, 16, 0, 8, 0, 64, 0, 32, 0, 0x23, 0x61, 0x45] =
      some (.windowPresent 2 1 ⟨3, 1, 16, 8, 64, 32, 0x123, 0x456⟩) ∧
      stagedChange #v[0, 0, 0, 0, 0, 0, 0, 0, 0, 0, 0, 0, 0, 0] = none := by decide +kernel

/-- SERVICE_CONTROL: power field in bits 1-0, LED field in bits 4-2. -/
theorem test_serviceByte :
    serviceOfByte 0x0D = .powerOn 3 ∧ serviceOfByte 0x02 = .powerOff 0 ∧ serviceOfByte 0x08 = .serviceLed 2 := by decide

/-! ### States for the tests -/

/-- Station 2 of a 2 × 2 wall in a state, between two slots of frame 100. -/
def at' (st : StationState) : State :=
  { State.reset with
    straps := ⟨2, 1, 1⟩
    timer := { State.reset.timer with frame := 100, noGuard := false, nextSlot := 16 }
    ctl := { resetController with
      state := st, leaveFrame := if st = .leaving then some 101 else none
      faultReason := if st = .fault then .collision else .none }
    snap := { resetSnapshot with
      coll := if st = .joining then .waiting else .idle, eLost := if st = .joining then some 90 else none } }

/-- The same state at its own slot, which has opened and sent nothing yet. -/
def ready (st : StationState) : State :=
  { at' st with timer := { (at' st).timer with openSlot := some 2, nextSlot := 3 } }

/-- The same state while slot 1 is open and no byte has come, with an entry of station 1. -/
def hearing (st : StationState) (e : Entry) : State :=
  { at' st with
    timer := { (at' st).timer with openSlot := some 1, nextSlot := 2 }
    bus := { (at' st).bus with attempt := .waiting }
    roster := clearedRoster.set 1 e }

/-- Station 1 in the roster, MEMBER with expected sequence 7. -/
def inStep : Entry := memberEntry 7

/-- A message of station 1 with mark 7, frame 100 and members 0 and 1. -/
def from1 (body : Body) : Message :=
  ⟨1, body.senderState, 100, if body.senderState = .member then 0x0003 else 0x0001, 7, body⟩

/-- The checks of Table 2-1 on a body. -/
def bodyOk (frame : Frame) : Body → Bool
  | .join reason => reason != .none
  | .leave f => frameAfter f frame
  | .changes records => decide (1 ≤ records.length ∧ records.length ≤ 4) && records.all fun r =>
      match r.1 with
      | .windowPresent _ flag _ => flag != 0
      | _ => true
  | .part _ _ _ data => decide (1 ≤ data.length ∧ data.length ≤ 64)
  | .idle => true

theorem wellFormed_of_bodyOk (m : Message) (h1 : m.state = m.body.senderState)
    (h2 : inSet m.members m.sender = (m.state == .member)) (h3 : bodyOk m.frame m.body = true) : m.wellFormed := by
  refine ⟨h1, by rw [h2]; exact beq_iff_eq, ?_⟩
  cases hb : m.body with
  | join r => rw [hb] at h3; simpa [bodyOk, Body.wellFormed] using h3
  | leave f => rw [hb] at h3; exact h3
  | changes rs =>
    rw [hb] at h3
    simp only [bodyOk, Bool.and_eq_true, decide_eq_true_eq, List.all_eq_true] at h3
    refine ⟨h3.1.1, h3.1.2, fun r hr => ?_⟩
    have := h3.2 r hr
    unfold Change.carried
    split <;> simp_all
  | part f i c d => rw [hb] at h3; simpa [bodyOk, Body.wellFormed] using h3
  | idle => trivial

theorem mayHear_of (m : Message) (s : State) (h : m.state = m.body.senderState ∧
    inSet m.members m.sender = (m.state == .member) ∧ bodyOk m.frame m.body = true ∧ m.sender ≠ s.own ∧
      s.timer.openSlot = some m.sender ∧ s.bus.attempt = .waiting) : s.mayHear m :=
  ⟨wellFormed_of_bodyOk m h.1 h.2.1 h.2.2.1, h.2.2.2.1, h.2.2.2.2.1, h.2.2.2.2.2⟩

/-! ### Single steps of the manual's examples -/

/-- Table 5-5: the blue write forms the record and advances the write index. -/
theorem test_paletteWrite :
    let s : State := { at' .member with sub := { resetSubmission with palWrite := ⟨17, .blue, ⟨200, 40, 0⟩⟩, ownSeq := 90 } }
    let t := effect (.palDataWrite 10) s
    t.sub.palWrite = ⟨18, .red, ⟨200, 40, 10⟩⟩ ∧ t.sub.outbound = [⟨.palette 17 ⟨200, 40, 10⟩, .waiting⟩] ∧ t.credits = 15 := by
  decide +kernel

/-- Table 5-5: the own slot of frame 500 sends the record with sequence 90 and effective frame 503. -/
theorem test_ownSlot :
    let s : State :=
      { ready .member with
        timer.frame := 500
        sub := { resetSubmission with outbound := [⟨.palette 17 ⟨200, 40, 10⟩, .waiting⟩], ownSeq := 90 } }
    let t := effect .ownSlotOpen s
    t.bus.txBuffer = messageBytes ⟨2, .member, 500, 0x0004, 90, .changes [(.palette 17 ⟨200, 40, 10⟩, 503)]⟩ ∧ t.sub.ownSeq = 91 ∧
      t.sub.outbound = [⟨.palette 17 ⟨200, 40, 10⟩, .beingSent 90 503⟩] ∧ t.bus.sending = true := by decide +kernel

/-- Table 5-5: at the frame start of 503 the record is applied and gives its receipt. -/
theorem test_apply :
    let s : State := { at' .member with timer.frame := 502, sched.list := [⟨.palette 17 ⟨200, 40, 10⟩, 503, 2, 90⟩] }
    let t := effect .ownFrameTimerExpiry s
    paletteAt t.obj.palette 17 = ⟨200, 40, 10⟩ ∧ t.sub.receipts = [⟨90, .palette, .applied, some 503⟩] ∧ t.sched.list = [] ∧
      t.timer.frame = 503 ∧ t.credits = 15 ∧ t.events.frame.recordsApplied = true := by decide +kernel

/-- A LEAVE between the opening of the own slot and its turn: OWN_SLOT_OPEN sends nothing, and the slot then closes (R2, R10). -/
theorem test_leaveInOwnSlot :
    let s := effect .leave (ready .joining)
    let t := effect .ownSlotOpen s
    s.ctl.state = .offline ∧ t.bus.sending = false ∧ t.timer.ownOpened = true ∧
      ({ t with timer.elapsed := 3 * 16667 }).dueSlotEvent = some (.slotClose 2) := by decide +kernel

/-- An edge read one tick after the end of the own 4 µs is no own edge: inside the guard it is counted (R21, R22, R24). -/
theorem test_edgeAfterOwnPulse :
    let s : State := { at' .member with timer.driving := true }
    (effect (.wbStrobeEdge 127) s).timer.earlyStrobes = 0 ∧ (effect (.wbStrobeEdge 128) s).timer.earlyStrobes = 1 ∧
      (effect (.wbStrobeEdge 128) s).timer.driving = false := by decide +kernel

/-- Table 10-1: the cursor at (1904, 1064) of a 2 × 2 wall of default tiles; the piece of tile 2, column 0 row 1. -/
theorem test_cursorPlacement :
    placementOf (tileRect ⟨2, 1, 1⟩ defaultConfiguration) 1904 1064 = some ⟨1904, 0, 0, 16, 16, 16⟩ ∧
      placementOf (tileRect ⟨0, 1, 1⟩ defaultConfiguration) 1904 1064 = some ⟨1904, 1064, 0, 0, 16, 16⟩ ∧
      placementOf (tileRect ⟨0, 1, 1⟩ defaultConfiguration) 1920 0 = none := by decide +kernel

/-- Table 11-1: the latch opens during a power-up; the panel goes to OFF and the command completes with DONE_HELD. -/
theorem test_latchOpens :
    let s : State :=
      { at' .offline with
        svc := { (at' .offline).svc with
          presence := ⟨true, true, none⟩, latch := ⟨false, true, some 640000⟩, request := true, power := .rising
          powerTimer := some 5, command := .powerOn } }
    let t := effect (.debounceExpiry .latch) s
    t.svc.power = .off ∧ t.svc.command = .none ∧ t.svc.outcome = .doneHeld ∧ t.events.service.serviceDone = true ∧
      t.events.service.latchChanged = true ∧ pwrEn t.svc = false := by decide +kernel

/-! ### For every statement with hypotheses, states and operands that meet them -/

/-- IdleStepRunsDueEventOrTick: an event that is due (the own timer at 9/8 P, which is 600012 ticks), and none due just before it. -/
theorem meets_IdleStepRunsDueEventOrTick :
    State.reset.pending = [] ∧ { State.reset with timer.elapsed := 600012 }.dueEvent = some .ownFrameTimerExpiry ∧
      { State.reset with timer.elapsed := 600011 }.dueEvent = none := by decide +kernel

/-- SlotWindowsAndExpiryOnTime: each event at the tick at which it falls due, and not one tick before: slot 15 at its close, slot 0 and slot
15 next, the own opening, nothing before the first frame start, the own expiry. -/
theorem meets_SlotWindowsAndExpiryOnTime :
    ({ at' .member with timer.openSlot := some 15, timer.elapsed := 16 * 16667 }.dueSlotEvent = some (.slotClose 15)) ∧
      ({ at' .member with timer.openSlot := some 15, timer.elapsed := 16 * 16667 - 1 }.dueSlotEvent = none) ∧
      ({ at' .member with timer.nextSlot := 0 }.dueSlotEvent = some (.slotOpen 0)) ∧
      ({ at' .member with timer.nextSlot := 15, timer.elapsed := 15 * 16667 }.dueSlotEvent = some (.slotOpen 15)) ∧
      ({ at' .member with timer.nextSlot := 15, timer.elapsed := 15 * 16667 - 1 }.dueSlotEvent = none) ∧
      ({ ready .member with timer.elapsed := 3 * 16667 - 1 }.dueSlotEvent = some .ownSlotOpen) ∧
      ({ ready .member with timer.elapsed := 3 * 16667 }.dueSlotEvent = some (.slotClose 2)) ∧
      (State.reset.timer.openSlot = none ∧ State.reset.timer.noGuard = true) ∧
      ({ at' .member with timer.elapsed := 32 * 16667 }.dueFrameEvent = some .ownFrameTimerExpiry) ∧
      ({ at' .offline with timer.elapsed := 36 * 16667 - 1 }.dueFrameEvent = none) := by decide +kernel

/-- SlotWindowsAndExpiryOnTime: the end of a message of 11 bytes on the pair and on the looped path, the end of the own pulse, a debounce,
the power timer and a blink, each at its tick and one tick before; a debounce before the power timer of the same tick. -/
theorem meets_DueBusAndServiceEvents :
    (let bus (sending : Bool) (awaiting : Awaiting) (d : Ticks) : State :=
      { at' .loopback with
        bus.sending := sending, bus.awaiting := awaiting, bus.txBuffer := List.replicate 11 0, bus.sendElapsed := d }
     (bus true .pair 704).dueBusEvent = some .transmitComplete ∧ (bus true .pair 703).dueBusEvent = none ∧
       (bus false .looped 704).dueBusEvent = some .loopedHandover ∧ (bus false .looped 703).dueBusEvent = none) ∧
      (let pulse (d : Ticks) : State := { at' .member with timer.driving := true, timer.driveElapsed := d }
       (pulse 128).dueBusEvent = some .strobeDriveEnd ∧ (pulse 127).dueBusEvent = none) ∧
      (let panel (t : Option Ticks) (p : Option Ticks) (b : Ticks) : State :=
        { at' .member with svc.latch := ⟨true, false, t⟩, svc.powerTimer := p, svc.led := .blink, svc.blinkElapsed := b }
       (panel (some 640000) (some 6400000) 0).dueServiceEvent = some (.debounceExpiry .latch) ∧
         (panel (some 639999) (some 6400000) 8000000).dueServiceEvent = some .powerTimerExpiry ∧
         (panel none (some 6399999) 8000000).dueServiceEvent = some .ledBlinkToggle ∧
         (panel (some 639999) (some 6399999) 7999999).dueServiceEvent = none) := by decide +kernel

/-- StationAndScheduleAfterReset and SharedStateAfterReset: the reset state is in range and has no attempt in progress; an attempt in the
second half of a frame is counted, and the readback of the own slot is not. -/
theorem meets_Resets :
    State.reset.bus.attempt ≠ .receiving ∧ ConfigInv State.reset ∧
      (let s : State := { at' .member with bus.attempt := .receiving }
       s.bus.badMessages ≠ 255 ∧ s.timer.openSlot ≠ some s.own) ∧
      (let s : State := { ready .member with bus.attempt := .receiving }
       s.timer.openSlot = some s.own ∧ transmits s.ctl.state = true) := ⟨by decide, rfl, by decide, by decide⟩

/-- OwnExpiryStartsFrameAndDrives: each state, between two frame starts; LEAVING before its leave frame; an attempt of the second half of
the frame, counted at the frame start of either kind. -/
theorem meets_OwnExpiryStartsFrameAndDrives :
    (at' .joining).betweenSlots ∧ (at' .member).betweenSlots ∧
      (let s : State := { at' .leaving with ctl.leaveFrame := some 102 }
       s.betweenSlots ∧ s.ctl.state = .leaving ∧ s.ctl.leaveFrame ≠ some (s.timer.frame + 1)) ∧
      ((at' .offline).betweenSlots ∧ (at' .offline).timer.driving = false) ∧
      ((at' .loopback).betweenSlots ∧ (at' .loopback).timer.driving = false) ∧
      (let s : State := { at' .joining with bus.attempt := .receiving, bus.badMessages := 254 }
       s.betweenSlots ∧ s.ctl.state ≠ .loopback ∧ s.bus.badMessages ≠ 255 ∧
         (effect .ownFrameTimerExpiry s).bus.badMessages = 255 ∧ (effect (.wbStrobeEdge 466676) s).bus.badMessages = 255) := by
  unfold State.betweenSlots; decide +kernel

/-- StrobeEdgeByElapsedTime: LOOPBACK; the last tick of the own pulse and the first after it; the first edge; the last tick inside the
guard, and the first outside it. -/
theorem meets_StrobeEdgeByElapsedTime :
    ((at' .loopback).ctl.state = .loopback ∧ (at' .loopback).timer.driving = false) ∧
      (let s : State := { at' .member with timer.driving := true }
       s.timer.driving = true ∧ s.timer.driveElapsed + (127 - s.timer.elapsed) < 4 * 32 ∧
         ¬s.timer.driveElapsed + (128 - s.timer.elapsed) < 4 * 32 ∧ s.timer.noGuard = false) ∧
      State.reset.timer.noGuard = true ∧ 28 * (at' .member).timer.period.toNat ≤ max 466676 (at' .member).timer.elapsed ∧
      max 466675 (at' .member).timer.elapsed < 28 * (at' .member).timer.period.toNat := by decide +kernel

/-- OwnSlotMessage: the own slot open in each state, and a LEAVING station with its leave frame. -/
theorem meets_OwnSlot :
    (ready .joining).ownSlotReady ∧ (ready .leaving).ownSlotReady ∧ (ready .leaving).ctl.leaveFrame = some 101 ∧
      (ready .member).ownSlotReady ∧ (ready .loopback).ownSlotReady := by
  unfold State.ownSlotReady; decide +kernel

/-- BusAndPortEventsOfOneField: the LED in BLINK, and not. -/
theorem meets_BlinkToggle : ({ State.reset with svc.led := .blink }).svc.led = .blink ∧ State.reset.svc.led ≠ .blink := by decide

/-- An own message that took no record, and one that took record `c` with number 90. -/
def ownIdle : Message := ⟨2, .member, 100, 0x0004, 90, .idle⟩
def ownChanges : Message := ⟨2, .member, 100, 0x0004, 90, .changes [(.background 3, 103)]⟩

/-- Station 2 with its own message sent and nothing of it come back. -/
def awaiting (st : StationState) (m : Message) : State :=
  { ready st with bus := { (ready st).bus with txBuffer := messageBytes m, awaiting := .pair, attempt := .waiting, sending := true } }

/-- ReadbackSuccessMovesRecords: a message without records; one with a record and room; the pending list full; two records that fill the
list, and two that find it full. -/
theorem meets_ReadbackSuccessMovesRecords :
    ownIdle.wellFormed ∧ ownChanges.wellFormed ∧
      (let s := awaiting .member ownIdle
       ownIdle.sender = s.own ∧ s.bus.txBuffer = messageBytes ownIdle ∧ s.bus.awaiting = .pair ∧ s.bus.attempt = .waiting ∧
         ∀ r ∈ s.sub.outbound, r.status = .waiting) ∧
      (let s : State :=
        { awaiting .member ownChanges with
          bus.alternation := .changes, sub.outbound := [⟨.background 3, .beingSent 90 103⟩, ⟨.background 4, .waiting⟩] }
       s.bus.txBuffer = messageBytes ownChanges ∧ s.bus.awaiting = .pair ∧ s.bus.attempt = .waiting ∧ s.bus.alternation = .changes ∧
         s.ctl.state = .member ∧
         s.sub.outbound = ⟨.background 3, .beingSent 90 (plusLead s.timer.frame s.cfg.lead)⟩ :: [⟨.background 4, .waiting⟩] ∧
         s.sched.list.length < 48 ∧ ∀ x ∈ s.sched.list, ¬(x.origin = s.own ∧ x.seq = 90)) ∧
      (let s : State := { awaiting .member ownChanges with sched.list := List.replicate 48 ⟨.background 0, 102, 1, 0⟩ }
       ¬s.sched.list.length < 48) ∧
      (let sent : List (Change × SeqNum) := [(.background 3, 90), (.background 4, 91)]
       let s (held : Nat) : State :=
        { awaiting .member ownChanges with
          sub.outbound := (sent.map fun x => ⟨x.1, .beingSent x.2 (plusLead 100 3)⟩) ++ [⟨.background 5, .waiting⟩]
          sched.list := List.replicate held ⟨.background 0, 102, 1, 0⟩ }
       (s 46).sched.list.length + sent.length ≤ 48 ∧ (sent.map fun x => x.2).Nodup ∧
         (∀ x ∈ (s 46).sched.list, ∀ y ∈ sent, ¬(x.origin = (s 46).own ∧ x.seq = y.2)) ∧ 48 ≤ (s 48).sched.list.length) :=
  ⟨wellFormed_of_bodyOk _ rfl (by decide) (by decide), wellFormed_of_bodyOk _ rfl (by decide) (by decide), by decide +kernel,
    by decide +kernel, by decide +kernel, by decide +kernel⟩

/-- ReadbackSuccessMovesRecords: a CHANGES message on the pair completes in LEAVING and in JOINING; with a full list in JOINING, where
E_lost moves and a collection ends; two records of which the list has room for one. -/
theorem meets_ReadbackInOtherStates :
    let s (st : StationState) (held : Nat) : State :=
      { awaiting st ownChanges with
        bus.alternation := .changes
        sub.outbound := [⟨.background 3, .beingSent 90 103⟩, ⟨.background 4, .beingSent 91 103⟩]
        sched.list := List.replicate held ⟨.background 0, 102, 1, 0⟩
        snap.coll := if st = .joining then .collecting else .idle }
    (∀ st ∈ [StationState.joining, .member, .leaving],
      (s st 47).bus.attempt = .waiting ∧ (s st 47).bus.awaiting = .pair ∧ (s st 47).ctl.state = st ∧
        (s st 47).sub.outbound = ⟨.background 3, .beingSent 90 (plusLead 100 3)⟩ :: [⟨.background 4, .beingSent 91 103⟩] ∧
        ∀ x ∈ (s st 47).sched.list, ¬(x.origin = (s st 47).own ∧ x.seq = 90)) ∧
      (let t := effect (.readback (messageBytes ownChanges) true) (s .leaving 47)
       t.sched.list.length = 48 ∧ t.sub.outbound = [] ∧ t.sub.receipts = [⟨91, .background, .discardedFull, some 103⟩]) ∧
      (let t := effect (.readback (messageBytes ownChanges) true) (s .joining 48)
       (s .joining 48).snap.eLost = some 90 ∧ t.sub.receipts.length = 2 ∧ t.snap.eLost = some 103 ∧ t.snap.coll = .waiting ∧
         t.events.wall.snapshotAbandoned = true) := by decide +kernel

/-- ReadbackFailureByRunCount: MEMBER, JOINING and LEAVING with a count of 0, and a count of 1; bytes that end the attempt, other bytes than
were sent, and the bytes sent when they are no message of the own position. -/
theorem meets_ReadbackFailureByRunCount :
    (let s := awaiting .member ownIdle
     s.timer.openSlot = some s.own ∧ s.bus.awaiting = .pair ∧ s.bus.attempt = .waiting ∧ transmits s.ctl.state = true ∧
       s.bus.runCount = 0 ∧ (takeRun [] [0, 0, 0, 0, 0, 0, 0, 73] true).2 = .invalid ∧
       (takeRun [] (messageBytes ownChanges) true).2 = .complete ∧
       (takeRun [] (messageBytes ownChanges) true).1 ≠ s.bus.txBuffer) ∧
      (let run := takeRun [] (messageBytes (from1 .idle)) true
       run.2 = .complete ∧ run.1 = (awaiting .member (from1 .idle)).bus.txBuffer ∧ parseMessage 2 run.1 = none) ∧
      transmits (awaiting .joining ownIdle).ctl.state = true ∧ transmits (awaiting .leaving ownIdle).ctl.state = true ∧
      1 ≤ ({ awaiting .member ownIdle with bus.runCount := 1 }).bus.runCount := by decide +kernel

/-- A clear of the wall side (R34, R53, R75, R76), here by the second failed readback: UNCERTAIN for the BEING_SENT record, then for the own
record in flight, then NOT_SENT for the WAITING records under the next numbers. -/
theorem test_receiptsAtCollision :
    let s : State :=
      { awaiting .leaving ownIdle with
        bus.runCount := 1
        sub.ownSeq := 9
        sub.outbound := [⟨.background 1, .beingSent 8 103⟩, ⟨.background 2, .waiting⟩, ⟨.showRec 1 0, .waiting⟩]
        sched.list := [⟨.background 3, 101, 1, 5⟩, ⟨.background 4, 102, 2, 7⟩] }
    let t := effect (.slotClose 2) s
    t.ctl.state = .fault ∧ t.sub.ownSeq = 11 ∧ t.sub.outbound = [] ∧
      t.sub.receipts = [⟨8, .background, .uncertain, some 103⟩, ⟨7, .background, .uncertain, some 102⟩,
        ⟨9, .background, .notSent, none⟩, ⟨10, .showRec, .notSent, none⟩] := by decide +kernel

/-- LoopedPathTakesOwnMessage: a message without records; one with a record; another slot open. -/
theorem meets_LoopedPathTakesOwnMessage :
    (let s : State := { ready .loopback with bus.awaiting := .looped }
     s.ctl.state = .loopback ∧ s.bus.awaiting = .looped ∧ s.snap.streaming = false ∧ ∀ r ∈ s.sub.outbound, r.status = .waiting) ∧
      (let s : State :=
        { ready .loopback with
          bus.awaiting := .looped, bus.alternation := .changes, sub.outbound := [⟨.background 3, .beingSent 90 103⟩] }
       s.sub.outbound = ⟨.background 3, .beingSent 90 (plusLead s.timer.frame s.cfg.lead)⟩ :: [] ∧ s.sched.list.length < 48) ∧
      (let s : State := { at' .loopback with timer.openSlot := some 1 }
       (1 : Position) ≠ s.own ∧ s.timer.openSlot = some 1) := by decide +kernel

/-- LoopedPathTakesOwnMessage: two records and a list with room for none, one and both of them. -/
theorem meets_LoopedRecords :
    let sent : List (Change × SeqNum) := [(.background 3, 90), (.background 4, 91)]
    let s (held : Nat) : State :=
      { ready .loopback with
        bus.awaiting := .looped, bus.alternation := .changes
        sub.outbound := sent.map fun x => ⟨x.1, .beingSent x.2 (plusLead 100 3)⟩
        sched.list := List.replicate held ⟨.background 0, 102, 2, 0⟩ }
    (∀ k ∈ [0, 1, 2],
      (s (48 - k)).sched.list.length + k = 48 ∧ ((sent.take k).map fun x => x.2).Nodup ∧
        (∀ x ∈ (s (48 - k)).sched.list, ∀ y ∈ sent, ¬(x.origin = (s 48).own ∧ x.seq = y.2)) ∧
        (effect .loopedHandover (s (48 - k))).sub.receipts.length = 2 - k) := by decide +kernel

/-! Reception. -/

/-- MessageBytesDecodeToMessage: a message of each kind, with the shortest and the longest body. -/
theorem meets_MessageBytesDecodeToMessage :
    (from1 .idle).wellFormed ∧ (from1 (.join .resync)).wellFormed ∧ (from1 (.leave 101)).wellFormed ∧
      (from1 (.part 100 18 19 (List.replicate 64 0))).wellFormed ∧
      (from1 (.changes (List.replicate 4 (.windowPresent 0 1 ⟨0, 0, 0, 0, 8, 8, 0, 0⟩, 103)))).wellFormed :=
  ⟨wellFormed_of_bodyOk _ rfl (by decide) (by decide), wellFormed_of_bodyOk _ rfl (by decide) (by decide),
    wellFormed_of_bodyOk _ rfl (by decide) (by decide), wellFormed_of_bodyOk _ rfl (by decide) (by decide),
    wellFormed_of_bodyOk _ rfl (by decide) (by decide)⟩

/-- ValidMessageIsWellFormed: bytes that pass the checks, and another check field behind them. -/
theorem meets_ValidMessageIsWellFormed :
    parseMessage 1 (messageBytes (from1 .idle)) = some (from1 .idle) ∧
      ([0, 0] : List Byte) ≠ halfBytes (crc16 (messageCore (from1 .idle))) := by
  decide +kernel

/-- MessagesThatAreNotDelivered: an invalid run and a wrong slot; OFFLINE and FAULT; the own slot of a LISTENING station. -/
theorem meets_MessagesThatAreNotDelivered :
    (let s := hearing .member inStep
     s.ctl.state ≠ .loopback ∧ s.bus.attempt = .waiting ∧ s.timer.openSlot ≠ some s.own ∧
       (takeRun [] [0, 0, 0, 0, 0, 0, 0, 73] true).2 = .invalid ∧
       (takeRun [] (messageBytes ownIdle) true).2 = .complete ∧
       ∀ k, s.timer.openSlot = some k → parseMessage k (takeRun [] (messageBytes ownIdle) true).1 = none) ∧
      (from1 .idle).wellFormed ∧ (hearing .offline absentEntry).timer.openSlot = some (from1 .idle).sender ∧
      (hearing .fault absentEntry).bus.attempt = .waiting ∧ ownIdle.wellFormed ∧
      (let s : State := { hearing .listening absentEntry with timer.openSlot := some 2 }
       ownIdle.sender = s.own ∧ s.timer.openSlot = some s.own ∧ s.bus.attempt = .waiting ∧ s.ctl.state = .listening) := by
  refine ⟨⟨by decide, by decide, by decide, by decide +kernel, by decide +kernel, ?_⟩, wellFormed_of_bodyOk _ rfl (by decide) (by decide),
    rfl, rfl, wellFormed_of_bodyOk _ rfl (by decide) (by decide), by decide⟩
  intro k hk
  cases hk
  decide +kernel

/-- MessagesThatAreNotDelivered: an attempt in progress with 8 bytes, which the rest completes; the own slot of a station that sends, whose
readback comes in two pieces; an attempt that has ended; runs at the ends of each range. -/
theorem meets_RunsOfBytes :
    (let bytes := messageBytes (from1 .idle)
     let s : State := { hearing .member inStep with bus.attempt := .receiving, bus.rxBuffer := bytes.take 8 }
     s.ctl.state ≠ .loopback ∧ s.timer.openSlot ≠ some s.own ∧
       takeRun (bytes.take 8) [bytes.getD 8 0] true = (bytes.take 9, .unfinished) ∧
       (effect (.messageReceived (bytes.drop 8) true) s).bus.delivered = true) ∧
      (let bytes := messageBytes ownIdle
       let s := awaiting .member ownIdle
       takeRun [] (bytes.take 7) true = ([] ++ bytes.take 7, .unfinished) ∧ s.bus.awaiting = .pair ∧
         (effect (.readback (bytes.drop 7) true) (effect (.readback (bytes.take 7) true) s)).bus.readback = .success) ∧
      ({ hearing .member inStep with bus.attempt := .ended }).bus.attempt = .ended ∧
      (let run (n : Byte) (extra : Nat) := takeRun [] ([0, 5, 0, 0, 0, 0, 0, n] ++ List.replicate extra 0)
       (run 73 0 true).2 = .invalid ∧ (run 72 73 true).2 = .unfinished ∧ (run 72 73 false).2 = .invalid ∧
         (run 72 74 true).2 = .complete ∧ (run 0 1 true).2 = .unfinished ∧ (run 0 2 true).2 = .complete ∧
         (run 0 3 true).1.length = 10) := by decide +kernel

/-- JoinAndLeaveMessagesUpdateEntry: a JOIN and a LEAVE of station 1. -/
theorem meets_JoinAndLeaveMessagesUpdateEntry :
    (hearing .joining inStep).mayHear (from1 (.join .new)) ∧ (hearing .member inStep).mayHear (from1 (.leave 101)) ∧
      delivers .joining = true ∧ delivers .member = true :=
  ⟨mayHear_of _ _ (by decide), mayHear_of _ _ (by decide), rfl, rfl⟩

/-- SequenceCheckByStationState: the expected mark and another one, in each delivering state. -/
theorem meets_SequenceCheckByStationState :
    (∀ st ∈ [StationState.listening, .joining, .member, .leaving],
      let s : State := { hearing st inStep with ctl.memberHeard := true }
      s.mayHear (from1 .idle) ∧ s.roster[(from1 .idle).sender].state = .member ∧
        s.roster[(from1 .idle).sender].expected = some (from1 .idle).mark ∧
        (s.reference = some (from1 .idle).sender → (from1 .idle).frame = s.timer.frame)) ∧
      (hearing .member (memberEntry 8)).roster[(from1 .idle).sender].expected ≠ some (from1 .idle).mark := by
  refine ⟨?_, by decide⟩
  intro st hst
  simp only [List.mem_cons, List.not_mem_nil, or_false] at hst
  rcases hst with rfl | rfl | rfl | rfl <;> exact ⟨mayHear_of _ _ (by decide), by decide, by decide, by decide +kernel⟩

/-- SequenceCheckByStationState: a PART message in MEMBER, and one in JOINING whose gap abandons the collection, its stream frame before the
new E_lost. -/
theorem meets_PartNotCollected :
    (hearing .member inStep).mayHear (from1 (.part 95 0 19 (List.replicate 64 5))) ∧
      (effect (.messageReceived (messageBytes (from1 .idle)) true) (hearing .member inStep)).snap.coll = .idle ∧
      (let s : State :=
        { hearing .joining (memberEntry 9) with
          snap.coll := .collecting, snap.collFrame := 95, snap.collSource := 1, snap.nextExpected := 1, snap.eLost := some 90 }
       s.mayHear (from1 (.part 95 1 19 (List.replicate 64 5))) ∧
         (let t := effect (.messageReceived (messageBytes (from1 .idle)) true) s
          t.snap.coll = .waiting ∧ t.snap.eLost = some 103 ∧ frameAfter 103 95 = true)) :=
  ⟨mayHear_of _ _ (by decide), by decide +kernel, mayHear_of _ _ (by decide), by decide +kernel⟩

/-- SequenceCheckByStationState: an IDLE of a JOINING entry in each delivering state; of an ABSENT entry that holds another sequence than
the mark, and of a LEAVING one that holds none, in LISTENING and JOINING; of an ABSENT one in LEAVING; and a gap shown by the reference
with another frame number in LISTENING and in LEAVING. -/
theorem meets_EntriesThatBecomeMember :
    (∀ st ∈ [StationState.listening, .joining, .member, .leaving],
      let s : State := { hearing st ⟨.joining, 2, some 3, none⟩ with ctl.memberHeard := true }
      s.mayHear (from1 .idle) ∧ s.roster[(1 : Position)].state = .joining ∧ delivers s.ctl.state = true ∧
        (from1 .idle).frame = s.timer.frame) ∧
      (∀ st ∈ [StationState.listening, .joining],
        (hearing st ⟨.absent, 4, some 3, none⟩).mayHear (from1 .idle) ∧ (hearing st ⟨.leaving, 0, none, some 101⟩).mayHear (from1 .idle) ∧
          (hearing st ⟨.absent, 4, some 3, none⟩).roster[(1 : Position)].expected.getD 7 ≠ 7 ∧
          (hearing st ⟨.leaving, 0, none, some 101⟩).roster[(1 : Position)].expected.getD 7 = 7) ∧
      (hearing .leaving absentEntry).mayHear (from1 .idle) ∧
      ∀ st ∈ [StationState.listening, .leaving],
        let s : State := { hearing st (memberEntry 9) with timer.frame := 99, ctl.memberHeard := true }
        s.mayHear (from1 .idle) ∧ s.reference = some 1 ∧ (from1 .idle).frame ≠ s.timer.frame ∧
          s.roster[(1 : Position)].expected ≠ some 7 := by
  refine ⟨?_, ?_, mayHear_of _ _ (by decide), ?_⟩ <;> intro st hst <;>
    simp only [List.mem_cons, List.not_mem_nil, or_false] at hst
  · rcases hst with rfl | rfl | rfl | rfl <;> exact ⟨mayHear_of _ _ (by decide), by decide, by decide, by decide⟩
  · rcases hst with rfl | rfl <;> exact ⟨mayHear_of _ _ (by decide), mayHear_of _ _ (by decide), by decide, by decide⟩
  · rcases hst with rfl | rfl <;> exact ⟨mayHear_of _ _ (by decide), by decide +kernel, by decide, by decide⟩

/-- RecordAcceptance: in window with room; in window with the list full; the frame before the window and the one after it; four records
that fill the list; a record lost in JOINING to a full list, and in LISTENING to a record of its number. -/
theorem meets_RecordAcceptance :
    (hearing .member inStep).mayHear (from1 (.changes [(.background 3, 103)])) ∧
      (hearing .member inStep).roster[(1 : Position)].expected = some 7 ∧ ((103 : Frame) - 100).toNat = 3 ∧
      (hearing .member inStep).sched.list.length < 48 ∧
      ¬({ hearing .member inStep with sched.list := List.replicate 48 ⟨.background 0, 102, 3, 0⟩ }).sched.list.length < 48 ∧
      ((102 : Frame) - 100).toNat ≠ 3 ∧ ((104 : Frame) - 100).toNat ≠ 3 ∧
      (let s : State := { hearing .member inStep with sched.list := List.replicate 44 ⟨.background 0, 102, 3, 0⟩ }
       let rs : List (Change × Frame) := List.replicate 4 (.background 3, 103)
       s.mayHear (from1 (.changes rs)) ∧ s.sched.list.length + rs.length ≤ 48 ∧
         (∀ r ∈ rs, (r.2 - s.timer.frame).toNat = s.cfg.lead.toNat) ∧
         ∀ x ∈ s.sched.list, x.origin = 1 → ∀ i < rs.length, x.seq ≠ 7 + BitVec.ofNat 8 i) ∧
      (let s : State := { hearing .joining inStep with sched.list := List.replicate 48 ⟨.background 0, 102, 3, 0⟩ }
       s.mayHear (from1 (.changes [(.background 3, 103)])) ∧ s.snap.eLost = some 90 ∧ 48 ≤ s.sched.list.length) ∧
      (let s : State :=
        { hearing .listening inStep with
          ctl.memberHeard := true, snap.eLost := some 90, sched.list := [⟨.background 0, 102, 1, 7⟩] }
       s.mayHear (from1 (.changes [(.background 3, 103)])) ∧ s.ctl.memberHeard = true ∧ s.snap.eLost = some 90 ∧
         ∃ x ∈ s.sched.list, x.origin = 1 ∧ x.seq = 7) :=
  ⟨mayHear_of _ _ (by decide), by decide, by decide, by decide, by decide, by decide, by decide,
    ⟨mayHear_of _ _ (by decide), by decide, by decide, by decide⟩, ⟨mayHear_of _ _ (by decide), rfl, by decide⟩,
    ⟨mayHear_of _ _ (by decide), rfl, rfl, by decide⟩⟩

/-- RecordAcceptance: a message of two records in each state that takes them, in step and with a gap; and in a LISTENING that has heard no
member, from a sender that the roster holds as ABSENT. -/
theorem meets_RecordsInEachState :
    (∀ st ∈ [StationState.listening, .joining, .member, .leaving],
      let s (expected : SeqNum) : State :=
        { hearing st (memberEntry expected) with
          ctl.memberHeard := true, snap.eLost := if st = .joining ∨ st = .listening then some 90 else none }
      let m := from1 (.changes [(.background 3, 103), (.background 4, 103)])
      (s 7).mayHear m ∧ (s 9).mayHear m ∧ (s 7).roster[m.sender].expected = some m.mark ∧ (s 9).roster[m.sender].expected ≠ some m.mark ∧
        m.frame = (s 7).timer.frame ∧ delivers (s 7).ctl.state = true) ∧
      (hearing .listening absentEntry).mayHear (from1 (.changes [(.background 3, 103)])) ∧
      (hearing .listening absentEntry).ctl.memberHeard = false := by
  refine ⟨?_, mayHear_of _ _ (by decide), rfl⟩
  intro st hst
  simp only [List.mem_cons, List.not_mem_nil, or_false] at hst
  rcases hst with rfl | rfl | rfl | rfl <;>
    exact ⟨mayHear_of _ _ (by decide), mayHear_of _ _ (by decide), by decide, by decide, by decide, by decide⟩

/-- Two records where the list has room for one (R86, R87): in LEAVING the second is lost; in JOINING it moves E_lost; after a gap in MEMBER
the first is held all the same, and the expected sequence goes past both. -/
theorem test_recordsWithRoomForOne :
    let s (st : StationState) (expected : SeqNum) : State :=
      { hearing st (memberEntry expected) with sched.list := List.replicate 47 ⟨.background 0, 102, 3, 0⟩ }
    let m := from1 (.changes [(.background 3, 103), (.background 4, 103)])
    let t (st : StationState) (expected : SeqNum) := effect (.messageReceived (messageBytes m) true) (s st expected)
    ((t .leaving 7).sched.list.length = 48 ∧ (t .leaving 7).ctl.state = .leaving) ∧
      ((t .joining 7).sched.list.length = 48 ∧ (t .joining 7).snap.eLost = some 103) ∧
      ((t .member 8).ctl.state = .joining ∧ (t .member 8).ctl.resyncCause = .gap ∧ (t .member 8).sched.list.length = 48 ∧
        (t .member 8).roster[(1 : Position)].expected = some 9) := by decide +kernel

/-- FrameOrderAndListOrder: two frames a half range apart at most. -/
theorem meets_FrameOrderAndListOrder :
    let l : List HeldRecord := [⟨.background 0, 65535, 1, 0⟩, ⟨.background 0, 32766, 0, 0⟩]
    let r : HeldRecord := ⟨.background 1, 65535, 15, 0⟩
    let place := fun x : HeldRecord => 16 * (x.eff - 65535).toNat + x.origin.val
    (∀ x ∈ r :: l, (x.eff - 65535).toNat ≤ 32767) ∧ l.Pairwise fun a b => place a ≤ place b := by decide

/-- MemberMessageSetsFrameNumber: a mismatch with reference station 1, in MEMBER and in JOINING, and the first message of a listening. -/
theorem meets_MemberMessageSetsFrameNumber :
    (∀ st ∈ [StationState.member, .joining],
      let s : State := { hearing st inStep with timer.frame := 99 }
      s.mayHear (from1 .idle) ∧ s.reference = some 1 ∧ (from1 .idle).frame ≠ s.timer.frame ∧
        s.roster[(1 : Position)].state = .member ∧ s.roster[(1 : Position)].expected = some 7) ∧
      (let s := hearing .listening absentEntry
       s.mayHear (from1 .idle) ∧ s.ctl.memberHeard = false ∧ s.roster[(from1 .idle).sender] = absentEntry) := by
  refine ⟨?_, mayHear_of _ _ (by decide), rfl, rfl⟩
  intro st hst
  simp only [List.mem_cons, List.not_mem_nil, or_false] at hst
  rcases hst with rfl | rfl <;> exact ⟨mayHear_of _ _ (by decide), by decide +kernel, by decide, by decide, by decide⟩

/-- MemberMessageSetsFrameNumber: a mismatch and a gap in one message, in MEMBER and JOINING (R47); the first MEMBER message of a listening
from a JOINING entry, and from an ABSENT one that holds a sequence. -/
theorem meets_MismatchWithGap :
    (∀ st ∈ [StationState.member, .joining],
      let s : State := { hearing st (memberEntry 9) with timer.frame := 99 }
      s.mayHear (from1 .idle) ∧ s.reference = some 1 ∧ (from1 .idle).frame ≠ s.timer.frame ∧ s.roster[(1 : Position)].expected ≠ some 7 ∧
        (let t := effect (.messageReceived (messageBytes (from1 .idle)) true) s
         t.ctl.resyncCause = .frame ∧ t.roster[(1 : Position)].expected = some 7 ∧ t.snap.eLost = some 103)) ∧
      (hearing .listening ⟨.joining, 2, some 3, none⟩).mayHear (from1 .idle) ∧
      (hearing .listening ⟨.absent, 4, some 3, none⟩).mayHear (from1 .idle) ∧
      (hearing .listening absentEntry).ctl.memberHeard = false := by
  refine ⟨?_, mayHear_of _ _ (by decide), mayHear_of _ _ (by decide), rfl⟩
  intro st hst
  simp only [List.mem_cons, List.not_mem_nil, or_false] at hst
  rcases hst with rfl | rfl <;>
    exact ⟨mayHear_of _ _ (by decide), by decide +kernel, by decide, by decide, by decide +kernel⟩

/-- MergeRuleDecides: a member set with the own position, with the expected mark and with another, from a lower position, in the frame and
in another; the same from a higher position, with a lower peer MEMBER; without the own position, another wall that wins, by its lowest
position and by the sender, and the own wall that wins; an entry that is LEAVING. -/
theorem meets_MergeRuleDecides :
    let s := hearing .member ⟨.absent, 4, some 7, none⟩
    let m (members : BitVec 16) (mark : SeqNum) (f : Frame) : Message := ⟨1, .member, f, members, mark, .idle⟩
    s.mayHear (m 0x0006 7 100) ∧ s.reference = some 2 ∧ inSet 0x0006 s.own = true ∧ s.roster[(1 : Position)].expected = some 7 ∧
      s.roster[(1 : Position)].expected ≠ some 8 ∧ s.mayHear (m 0x0006 8 101) ∧ (101 : Frame) ≠ s.timer.frame ∧ (1 : Position) < 2 ∧
      (∀ p, p ≠ s.own → p < (1 : Position) → s.roster[p].state ≠ .member) ∧
      s.mayHear (m 0x0002 7 100) ∧ inSet 0x0002 s.own = false ∧ (∀ p, p < (1 : Position) → inSet 0x0002 p = false) ∧
      (let s' : State := { s with roster := s.roster.set 0 inStep }
       s'.mayHear (m 0x0003 7 101) ∧ s'.mayHear (m 0x0002 7 101) ∧ s'.reference = some 0 ∧ (0 : Position) < 1 ∧
         (∃ p, p ≠ s'.own ∧ p < (1 : Position) ∧ s'.roster[p].state = .member) ∧ inSet 0x0003 s'.own = false ∧
         inSet 0x0003 0 = true ∧ (1 : Position) < s'.own ∧ ¬((1 : Position) < 0 ∨ ((1 : Position) = 0 ∧ (1 : Position) < s'.own))) ∧
      (let s' := hearing .member ⟨.leaving, 0, some 7, some 101⟩
       s'.mayHear (m 0x0006 7 100) ∧ s'.roster[(1 : Position)].state = .leaving ∧ s'.reference = some 2) :=
  ⟨mayHear_of _ _ (by decide), by decide +kernel, by decide, by decide, by decide, mayHear_of _ _ (by decide), by decide, by decide,
    by decide, mayHear_of _ _ (by decide), by decide, by decide,
    ⟨mayHear_of _ _ (by decide), mayHear_of _ _ (by decide), by decide +kernel, by decide, ⟨0, by decide⟩, by decide, by decide, by decide,
      by decide⟩,
    mayHear_of _ _ (by decide), by decide, by decide +kernel⟩

/-- A returning station of a lower position whose frame number differs (R56, R57, R30): in sequence a resync with cause FRAME, out of
sequence one with cause GAP that adopts the number too (log 11). -/
theorem test_returningInAnotherFrame :
    let s := hearing .member ⟨.leaving, 4, some 7, some 101⟩
    let t (mark : SeqNum) : State := effect (.messageReceived (messageBytes ⟨1, .member, 200, 0x0006, mark, .idle⟩) true) s
    (t 7).ctl.state = .joining ∧ (t 7).ctl.resyncCause = .frame ∧ (t 7).timer.frame = 200 ∧ (t 8).ctl.resyncCause = .gap ∧
      (t 8).timer.frame = 200 ∧ (t 8).snap.eLost = some 203 ∧ (t 8).roster[(1 : Position)] = ⟨.member, 0, some 8, none⟩ := by
  decide +kernel

/-- SlotCloseAgesEntry: a delivered slot; an entry that reaches S = 4, as the source of a collection too, and one that does not; a state
that delivers nothing; an attempt in progress in a peer's slot, and in the own slot of a LISTENING station. -/
theorem meets_SlotCloseAgesEntry :
    (let s := hearing .member ⟨.member, 3, some 7, none⟩
     (1 : Position) ≠ s.own ∧ s.timer.openSlot = some 1 ∧ s.bus.attempt ≠ .receiving ∧ s.snap.coll ≠ .collecting ∧
       s.bus.delivered = false ∧ delivers s.ctl.state = true ∧ s.cfg.silence.toNat ≤ min 15 (s.roster[(1 : Position)].miss + 1) ∧
       min 15 ((hearing .member ⟨.member, 2, some 7, none⟩).roster[(1 : Position)].miss + 1) < s.cfg.silence.toNat ∧
       delivers (hearing .fault absentEntry).ctl.state = false) ∧
      (let s : State :=
        { hearing .joining ⟨.member, 3, some 7, none⟩ with snap.coll := .collecting, snap.collSource := 1, bus.attempt := .receiving }
       s.roster[(1 : Position)].state = .member ∧ s.snap.collSource = 1 ∧ s.snap.coll = .collecting ∧ s.bus.attempt = .receiving ∧
         s.ctl.state ≠ .loopback) ∧
      (let s : State := { ready .listening with bus.attempt := .receiving }
       s.timer.openSlot = some s.own ∧ s.bus.awaiting = .none ∧ s.bus.attempt = .receiving ∧ transmits s.ctl.state = false ∧
         s.ctl.state ≠ .loopback) := by decide +kernel

/-- SlotCloseAgesEntry: the close of the own slot of a MEMBER whose readback has come; slots 14 and 15. LoopedPathTakesOwnMessage: the
close of the own slot before the hand-over. -/
theorem meets_SlotCloses :
    (let s : State := { ready .member with bus.attempt := .ended }
     s.timer.openSlot = some s.own ∧ s.bus.awaiting = .none ∧ (effect (.slotClose 2) s).bus.attempt = .off) ∧
      (let s (k : Position) : State := { at' .member with timer.openSlot := some k }
       (14 : Position) ≠ (s 14).own ∧ (effect (.slotClose 14) (s 14)).bus.attempt = .off ∧
         (effect (.slotClose 15) (s 15)).bus.attempt = .waiting) ∧
      (let s : State := { ready .loopback with bus.awaiting := .looped }
       s.timer.openSlot = some s.own ∧ s.bus.awaiting = .looped) := by decide +kernel

/-- A JOINING station that hears station 1, its reference, and collects part 1 of stream frame 95. -/
def collecting (next : Nat) : State :=
  { hearing .joining inStep with
    snap := { (hearing .joining inStep).snap with coll := .collecting, collFrame := 95, collSource := 1, nextExpected := next } }

/-- PartMessageWhileJoining: part 0 at E_lost and a part before it; part 1 and part 17; another sender; a part out of turn; a part 0 heard
while part 1 is expected, and while part 18 is; a part 18 of 64 bytes while part 18 is expected. -/
theorem meets_PartMessageWhileJoining :
    (hearing .joining inStep).mayHear (from1 (.part 90 0 19 (List.replicate 64 5))) ∧
      (let s := hearing .joining inStep
       s.reference = some 1 ∧ s.roster[(1 : Position)].expected = some 7 ∧ s.snap.coll = .waiting ∧ s.snap.eLost = some 90 ∧
         frameAfter 90 90 = false ∧ frameAfter 90 89 = true) ∧
      (collecting 1).mayHear (from1 (.part 95 1 19 (List.replicate 64 5))) ∧
      (collecting 17).mayHear (from1 (.part 95 17 19 (List.replicate 64 5))) ∧ (collecting 17).snap.nextExpected < 18 ∧
      (collecting 1).mayHear (from1 (.part 95 2 19 (List.replicate 64 5))) ∧
      ({ collecting 1 with snap.collSource := 0 }).snap.collSource ≠ 1 ∧
      (collecting 1).mayHear (from1 (.part 99 0 19 (List.replicate 64 5))) ∧
      (collecting 18).mayHear (from1 (.part 99 0 19 (List.replicate 64 5))) ∧
      (collecting 18).mayHear (from1 (.part 95 18 19 (List.replicate 64 5))) ∧
      (let s := collecting 18
       s.snap.coll = .collecting ∧ s.snap.collSource = 1 ∧ s.snap.nextExpected = 18 ∧ s.reference = some 1 ∧ s.snap.collFrame ≠ 99 ∧
         frameAfter 90 99 = false) :=
  ⟨mayHear_of _ _ (by decide), by decide +kernel, mayHear_of _ _ (by decide), mayHear_of _ _ (by decide), by decide,
    mayHear_of _ _ (by decide), by decide, mayHear_of _ _ (by decide), mayHear_of _ _ (by decide), mayHear_of _ _ (by decide),
    by decide +kernel⟩

/-- While part 18 is expected, a part 18 of 64 bytes abandons the collection (R138, R139). -/
theorem test_wrongLengthOfPart18 :
    let t := State.takePart 1 95 18 19 (List.replicate 64 5) (collecting 18)
    t.snap.coll = .waiting ∧ t.ctl.state = .joining ∧ t.events.wall.snapshotAbandoned = true := by decide +kernel

/-- A JOINING station with a whole image in its assembly. -/
def assembled (im : Image) : State := { collecting 18 with snap.assembly := im }

/-- Deferred records of a collection of stream frame 95 in frame 100: an own SHOW record for frame 96, another for 98, one in conflict
with it, a record that is no SHOW record, and an own record of the stream frame. -/
def deferredShows : List HeldRecord :=
  [⟨.background 7, 95, 2, 3⟩, ⟨.showRec 4 3, 96, 2, 4⟩, ⟨.showRec 2 0, 98, 1, 9⟩, ⟨.showRec 5 0, 98, 2, 5⟩, ⟨.background 1, 100, 2, 6⟩,
    ⟨.background 2, 101, 2, 7⟩]

/-- InstallByItsChecks: part 18 from the source of a collection that waits for it; an image of the own wall, one of another geometry, and
one whose show state is not one; deferred SHOW records of several frames between the stream frame and the current one, in frame order. -/
theorem meets_InstallByItsChecks :
    ((collecting 18).mayHear (from1 (.part 95 18 19 (List.replicate 32 5))) ∧ (collecting 18).reference = some 1 ∧
        (collecting 18).snap.nextExpected = 18 ∧ (collecting 18).roster[(1 : Position)].expected = some 7) ∧
      (let im := (at' .member).captureImage
       (geometryMatches (assembled im).straps (assembled im).cfg im = true ∧ contentPasses (assembled im).geometry im = true) ∧
         geometryMatches (assembled im).straps (assembled im).cfg (im.set 8 4) = false ∧
         (geometryMatches (assembled im).straps (assembled im).cfg (im.set 10 4) = true ∧
           contentPasses (assembled im).geometry (im.set 10 4) = false) ∧
         (assembled im).ctl.state = .joining ∧ (assembled im).snap.coll = .collecting ∧ (assembled im).sched.list = []) ∧
      (let s : State := { collecting 18 with sched.list := deferredShows }
       let deferred := s.sched.list.filter fun r => frameAfter r.eff s.snap.collFrame && !frameAfter r.eff s.timer.frame
       deferred = (deferredShows.drop 1).take 4 ∧
         (deferred.filter fun r => r.change.kind == .showRec).Pairwise
           fun a b => (a.eff - s.snap.collFrame).toNat ≤ (b.eff - s.snap.collFrame).toNat) :=
  ⟨⟨mayHear_of _ _ (by decide), by decide +kernel, rfl, by decide⟩, by decide +kernel, by decide +kernel⟩

/-- The walk of an install (R125, R92, R96): RUNNING in the image of frame 95, PACE 3 at 96, HOLD at 98 and RESUME in conflict there. The
wall is HELD from 98 on, and a wall without the record of 98 would have paced to a countdown of 2 at 100. -/
theorem test_installWalk :
    let im := ({ at' .member with shows := ⟨.running, 0, .null, none, .null, none⟩ }).captureImage
    let s (l : List HeldRecord) : State := { assembled im with sched.list := l }
    let t := (s deferredShows).install
    let u := (s (deferredShows.take 2)).install
    t.ctl.state = .member ∧ t.shows.state = .held ∧ t.shows.countdown = 0 ∧
      t.sub.receipts = [⟨3, .background, .uncertain, some 95⟩, ⟨4, .showRec, .applied, some 96⟩,
        ⟨5, .showRec, .rejectedConflict, some 98⟩, ⟨6, .background, .applied, some 100⟩] ∧
      t.sched.list = [⟨.background 2, 101, 2, 7⟩] ∧ u.shows.state = .paced 3 ∧ u.shows.countdown = 2 := by decide +kernel

/-- CaptureAndInstallAgree: a paced wall. -/
theorem meets_CaptureAndInstallAgree : ShowInv { at' .member with shows := ⟨.paced 8, 8, .null, none, .null, none⟩ } := by
  unfold ShowInv; decide

/-- LeaversGoAndStreamStarts: an entry whose leave frame is the new frame, one whose leave frame is after it; a reference with a joiner. -/
theorem meets_LeaversGoAndStreamStarts :
    (let s : State := { at' .member with roster := clearedRoster.set 1 ⟨.leaving, 0, some 7, some 101⟩ }
     s.betweenSlots ∧ s.roster[(1 : Position)].leaveFrame = some 101 ∧ frameAfter 101 (s.timer.frame + 1) = false ∧
       frameAfter 102 (s.timer.frame + 1) = true) ∧
      (let s : State := { at' .member with roster := clearedRoster.set 3 ⟨.joining, 0, some 7, none⟩ }
       s.betweenSlots ∧ s.reference = some s.own ∧ (3 : Position) ≠ s.own ∧ s.roster[(3 : Position)].state = .joining ∧
         s.snap.streaming = false ∧ ∀ p : Position, leaveFrameCome (s.timer.frame + 1) s.roster[p] = false) := by
  unfold State.betweenSlots; decide +kernel

/-- LeaversGoAndStreamStarts: a LEAVING entry at its leave frame in LISTENING, here at the founding, in JOINING and in LEAVING before the
own leave frame; OwnExpiryStartsFrameAndDrives: position 0 in LISTENING and in MEMBER. -/
theorem meets_LeaversInEachState :
    (∀ st ∈ [StationState.listening, .joining, .leaving],
      let s : State :=
        { at' st with
          roster := clearedRoster.set 1 ⟨.leaving, 0, some 7, some 101⟩, ctl.countdown := 1
          ctl.leaveFrame := if st = .leaving then some 102 else none }
      s.timer.openSlot = none ∧ s.ctl.state = st ∧ s.ctl.leaveFrame ≠ some (s.timer.frame + 1) ∧
        (effect .ownFrameTimerExpiry s).roster[(1 : Position)] = absentEntry) ∧
      (let s (st : StationState) : State := { at' st with straps.pos := 0 }
       (effect .ownFrameTimerExpiry (s .joining)).timer.ownOpened = false ∧
         (effect .ownFrameTimerExpiry (s .offline)).timer.ownOpened = true) := by decide +kernel

/-! Station commands. -/

/-- JoinOrLoopbackInOffline: 4 × 4 at position 15, which pass; 3 × 6, and position 4 of 2 × 2, which fail. -/
theorem meets_JoinOrLoopbackInOffline :
    (at' .offline).ctl.state = .offline ∧ (4 * 4 ≤ 16 ∧ (15 : Position).val < 4 * 4) ∧ 16 < 3 * 6 ∧ 2 * 2 ≤ (4 : Position).val ∧
      strapsPass ⟨15, 3, 3⟩ = true ∧ strapsPass ⟨0, 2, 5⟩ = false ∧ strapsPass ⟨4, 1, 1⟩ = false := by decide

/-- EntryToOfflineByCommand: each state with its command; FAULT with the wall side clear. -/
theorem meets_EntryToOfflineByCommand :
    (at' .listening).ctl.state = .listening ∧ (at' .joining).ctl.state = .joining ∧ (at' .loopback).ctl.state = .loopback ∧
      (at' .fault).ctl.state = .fault ∧ (at' .fault).sched.list = [] ∧ (at' .fault).sub.outbound = [] := by decide

/-- EntryToOfflineByCommand: a JOIN message under way, cut off by LEAVE (R17). -/
theorem test_messageCutOff :
    let s : State := { awaiting .joining ownIdle with bus.attempt := .receiving, bus.runCount := 1, bus.readback := .failure }
    let t := effect .leave s
    s.ctl.state = .joining ∧ s.bus.awaiting = .pair ∧ t.bus.attempt = .ended ∧ t.bus.readback = .failure ∧ t.bus.badMessages = 0 ∧
      t.bus.sending = false := by decide +kernel

/-- UNLOOP with a record under way: the BEING_SENT record keeps its number, and the WAITING one takes the next (R75). -/
theorem test_receiptsAtUnloop :
    let s : State :=
      { at' .loopback with
        sub.ownSeq := 9, sub.outbound := [⟨.background 1, .beingSent 8 103⟩, ⟨.background 2, .waiting⟩]
        sched.list := [⟨.background 4, 102, 2, 7⟩] }
    (effect .unloop s).sub.receipts = [⟨7, .background, .uncertain, some 102⟩, ⟨8, .background, .notSent, none⟩,
      ⟨9, .background, .notSent, none⟩] ∧ (effect .unloop s).sub.ownSeq = 10 := by decide +kernel

/-- LeavingFixesAndReachesLeaveFrame: MEMBER before and after its slot of the frame; the frame before the leave frame. -/
theorem meets_LeavingFixesAndReachesLeaveFrame :
    (at' .member).ctl.state = .member ∧ (at' .leaving).betweenSlots ∧ (at' .leaving).ctl.state = .leaving ∧
      (at' .leaving).ctl.leaveFrame = some ((at' .leaving).timer.frame + 1) := by
  unfold State.betweenSlots; decide

/-- CommandBytesAndRefusals: a state that refuses each command, and the bytes at the ends of the ranges that name none. -/
theorem meets_CommandBytesAndRefusals :
    (at' .member).ctl.state ≠ .offline ∧ (at' .member).ctl.state ≠ .loopback ∧ (at' .member).ctl.state ≠ .fault ∧
      (at' .leaving).ctl.state ≠ .listening ∧ (at' .leaving).ctl.state ≠ .joining ∧ (at' .leaving).ctl.state ≠ .member ∧
      7 ≤ (7 : Byte).toNat ∧ (255 : Byte) ≠ 0x5A ∧ writeCommand 0x28 [1, 6] 2 = some .leave := by decide

/-- ListeningCountsDownAndEnds: countdowns of 2 and of 1, with and without a member heard. -/
theorem meets_ListeningCountsDownAndEnds :
    let s : State := { at' .listening with ctl.countdown := 1 }
    s.betweenSlots ∧ s.ctl.state = .listening ∧ s.ctl.countdown = 1 ∧ s.ctl.memberHeard = false ∧
      (∀ p : Position, leaveFrameCome (s.timer.frame + 1) s.roster[p] = false) ∧
      ({ s with ctl.memberHeard := true }).ctl.memberHeard = true ∧ 2 ≤ ({ s with ctl.countdown := 2 }).ctl.countdown := by
  unfold State.betweenSlots; decide +kernel

/-! Schedule, objects and show. -/

/-- FrameStartAppliesDueRecords: one record due, of the own station and of a peer; nothing due; two SHOW records due; in LOOPBACK and in
LEAVING, a WINDOW record and a cursor record that are applied before a SHOW record, and none of these. -/
theorem meets_FrameStartAppliesDueRecords :
    let r : HeldRecord := ⟨.background 9, 101, 2, 4⟩
    let a : HeldRecord := ⟨.showRec 1 0, 101, 2, 4⟩
    let b : HeldRecord := ⟨.showRec 2 0, 101, 2, 5⟩
    let w : HeldRecord := ⟨.windowPresent 7 1 ⟨7, 7, 0, 0, 8, 8, 0, 0⟩, 101, 2, 6⟩
    let c : HeldRecord := ⟨.cursorMove 5 5, 101, 1, 7⟩
    let later : HeldRecord := ⟨.background 9, 102, 1, 4⟩
    let due (st : StationState) (l : List HeldRecord) : State := { at' st with sched.list := l, ctl.leaveFrame := some 102 }
    (due .member [r, later]).betweenSlots ∧ (due .member [r, later]).sched.list.filter (fun x => x.eff == 101) = [r] ∧
      (due .member [later]).sched.list.all (fun x => x.eff != 101) = true ∧
      (due .member [a, b]).sched.list.filter (fun x => x.eff == (due .member [a, b]).timer.frame + 1) = [a, b] ∧
      r.origin = (due .member [r]).own ∧ (due .loopback [w, c, a]).betweenSlots ∧ (due .leaving [w, c, a]).betweenSlots ∧
      (due .leaving []).ctl.leaveFrame ≠ some ((due .leaving []).timer.frame + 1) ∧
      (due .loopback [w, c, a]).sched.list.filter (fun x => x.eff == 101) = [w, c] ++ a :: [] ∧
      (∀ x ∈ [w, c], x.change.kind ≠ .showRec ∧ changeValid (due .loopback [w, c, a]).geometry x.change = true) ∧
      r.change.kind ≠ .window ∧ r.change.kind ≠ .cursorMove ∧ r.change.kind ≠ .cursorLook := by
  unfold State.betweenSlots; decide +kernel

/-- RecordsJudgedAndWritten: fields at the ends of their ranges, and one past them, on a canvas of 3840 × 2160. -/
theorem meets_RecordsJudgedAndWritten :
    let g : Geometry := ⟨2, 2, 1920, 1080⟩
    changeValid g (.cursorMove (BitVec.ofInt 16 (-31)) 2159) = true ∧ changeValid g (.cursorMove (BitVec.ofInt 16 (-32)) 0) = false ∧
      changeValid g (.cursorMove 3840 0) = false ∧ changeValid g (.cursorLook 1 ⟨0, 0, 0⟩ ⟨0, 0, 0⟩) = true ∧
      changeValid g (.cursorLook 2 ⟨0, 0, 0⟩ ⟨0, 0, 0⟩) = false ∧ changeValid g (.cursorRow 31 blankRow) = true ∧
      changeValid g (.cursorRow 32 blankRow) = false ∧ changeValid g (.windowAbsent 7) = true ∧ changeValid g (.windowAbsent 8) = false ∧
      changeValid g (.windowPresent 7 1 ⟨7, 7, 3832, 2152, 8, 8, 4095, 4095⟩) = true ∧
      changeValid g (.windowPresent 7 1 ⟨7, 7, 3833, 2152, 8, 8, 0, 0⟩) = false ∧
      changeValid g (.showRec 4 8) = true ∧ changeValid g (.showRec 4 9) = false ∧ changeValid g (.showRec 6 1) = true ∧
      changeValid g (.showRec 7 0) = false := by decide

/-- ShowTable and PacingWordAndInstallWalk: factors 2 and 8, a countdown of 1 and of 2, words and no words. -/
theorem meets_ShowTableAndPacing :
    2 ≤ (2 : Byte).toNat ∧ (8 : Byte).toNat ≤ 8 ∧ showFieldsValid 4 1 = false ∧
      (let k : ShowControl := ⟨.paced 2, 1, .null, some .hold, .null, some 5⟩
       k.state = .paced 2 ∧ k.transition = .null ∧ k.countdown = 1 ∧ k.deferred = some .hold ∧ k.installPos = some 5 ∧
         2 ≤ ({ k with countdown := 2 }).countdown ∧ ({ k with transition := .start }).transition ≠ .null) ∧
      (let k : ShowControl := ⟨.held, 0, .null, none, .null, some 5⟩
       k.installPos = some 5 ∧ k.deferred = none ∧ k.state = .held) := by decide

/-- JoiningDropsHeldRecords: WAITING and COLLECTING; LISTENING that goes on, and one that founds; E_lost at the ages where it moves and
where it does not. -/
theorem meets_JoiningDropsHeldRecords :
    (let s := at' .joining
     s.betweenSlots ∧ s.ctl.state = .joining ∧ s.snap.coll ≠ .collecting ∧ s.snap.eLost = some 90 ∧
       ∀ p : Position, leaveFrameCome (s.timer.frame + 1) s.roster[p] = false) ∧
      ({ at' .joining with snap.coll := .collecting }).snap.coll = .collecting ∧
      (let s : State := { at' .listening with ctl.countdown := 2 }
       s.betweenSlots ∧ s.ctl.state = .listening ∧ ¬s.ctl.countdown ≤ 1) ∧
      (let s : State := { at' .listening with ctl.countdown := 1 }
       s.ctl.countdown ≤ 1 ∧ s.ctl.memberHeard = false) ∧
      16384 ≤ ((101 : Frame) - 49253).toNat ∧ ((101 : Frame) - 32870).toNat ≤ 32767 := by
  unfold State.betweenSlots; decide +kernel

/-! Compositor. -/

/-- ViewListOrderAndEntries: a window that reaches the tile of the reset part by one pixel, and one that does not; five that reach it, of
which the one of the lowest layer is left out. -/
theorem meets_ViewListOrderAndEntries :
    let near : Window := ⟨1, 2, 1919, 0, 8, 8, 0, 0⟩
    let far : Window := ⟨1, 2, 1920, 0, 8, 8, 0, 0⟩
    let low : Window := ⟨1, 1, 0, 0, 8, 8, 0, 0⟩
    let s (ws : Vector (Option Window) 8) : Compositor :=
      recomputeViews State.reset.straps State.reset.cfg { defaultObjects with windows := ws } State.reset.comp
    let two := s ((defaultObjects.windows.set 0 (some near)).set 7 (some far))
    let five := s #v[some near, some low, some near, none, some near, none, some near, none]
    (two.views = [⟨0, 1, ⟨1919, 1920, 0, 8⟩, 0, 0⟩] ∧ two.qualifying = 1) ∧
      five.views.map View.id = [0, 2, 4, 6] ∧ five.qualifying = 5 := by decide +kernel

/-- PixelAtPoint: windows hidden; a view that holds the point; BLANK; the cursor on the point, at its first and last pixel. -/
theorem meets_PixelAtPoint :
    let v : View := ⟨0, 1, ⟨0, 8, 0, 8⟩, 0, 0⟩
    let s : State :=
      { State.reset with
        comp := { State.reset.comp with views := [v], hidden := false, showing := true, placement := some ⟨0, 0, 0, 0, 32, 32⟩ }
        obj.look := ⟨true, ⟨1, 1, 1⟩, ⟨2, 2, 2⟩⟩ }
    State.reset.comp.hidden = true ∧ s.comp.hidden = false ∧ s.comp.views = [] ++ v :: [] ∧ v.clip.holds 7 7 = true ∧
      v.clip.holds 8 0 = false ∧ State.reset.comp.showing = false ∧ s.comp.showing = true ∧ s.obj.look.visible = true ∧
      s.comp.placement = some ⟨0, 0, 0, 0, 32, 32⟩ ∧ s.pixelAt (fun _ _ _ => some 9) 7 7 = ⟨9, 9, 9⟩ ∧
      s.pixelAt (fun _ _ _ => none) 31 31 = ⟨0, 0, 0⟩ := by decide +kernel

/-- PairBitsAndPicture: the start and the stop bit of the first byte (0 and 9 of 6.4 ticks each), bit 0 of it, the start bit of the second
byte, and nothing after the last; a pixel of a picture, its last, and the one after it. -/
theorem meets_PairBitsAndPicture :
    (let s (elapsed : Ticks) : State := { awaiting .member ownIdle with bus.sendElapsed := elapsed }
     (s 0).pairBit = some .start ∧ (s 7).pairBit = some (.data false) ∧ (s 13).pairBit = some (.data true) ∧ (s 63).pairBit = some .stop ∧
       (s 64).pairBit = some .start ∧ (s 639).pairBit = some .stop ∧ (s 640).pairBit = none ∧ (at' .member).pairBit = none) ∧
      (let s : State := { at' .member with comp.tile := ⟨1920, 1928, 0, 2⟩ }
       s.pixDe 15 = true ∧ s.pixDe 16 = false ∧ (s.pixelOut (fun _ _ _ => none) 9).isSome = true ∧
         (s.pictureCut (fun _ _ _ => none) 3).length = 3) := by decide +kernel

/-! Submission. -/

/-- SubmitAndStage: a valid stage in MEMBER; a state that takes none; an invalid stage; a full queue; no credit. -/
theorem meets_SubmitAndStage :
    let staged (st : StationState) (q : List OutRecord) (rs : List Receipt) : State :=
      { at' st with sub := { resetSubmission with stage := resetSubmission.stage.set 0 6, outbound := q, receipts := rs } }
    stagedChange (staged .member [] []).sub.stage = some (.background 0) ∧
      changeValid (staged .member [] []).geometry (.background 0) = true ∧ 0 < (staged .member [] []).credits ∧
      (staged .leaving [] []).ctl.state = .leaving ∧ stagedChange (at' .member).sub.stage = none ∧
      8 ≤ (staged .member (List.replicate 8 ⟨.background 1, .waiting⟩) []).sub.outbound.length ∧
      (staged .member [] (List.replicate 16 ⟨0, .palette, .applied, some 5⟩)).credits = 0 ∧
      (15 : Byte).toNat < 16 ∧ 16 ≤ (16 : Byte).toNat ∧ 8 ≤ (8 : Byte).toNat := by decide +kernel

/-- HoldingRegisters: each pointer value, first and last byte, in a state that takes a record. -/
theorem meets_HoldingRegisters :
    State.reset.sub.palWrite.pointer = .red ∧ ({ State.reset with sub.palWrite.pointer := .green }).sub.palWrite.pointer = .green ∧
      ({ at' .member with sub.palWrite.pointer := .blue }).sub.palWrite.pointer = .blue ∧ (at' .member).sub.outbound.length < 8 ∧
      0 < (at' .member).credits ∧ (at' .offline).ctl.state = .offline ∧
      ({ State.reset with sub.palRead.pointer := .blue }).sub.palRead.pointer = .blue ∧
      State.reset.sub.curWrite.pointer.val < 7 ∧ ({ at' .joining with sub.curWrite.pointer := 7 }).sub.curWrite.pointer = 7 ∧
      ({ State.reset with sub.curRead.pointer := 6 }).sub.curRead.pointer.val < 7 ∧
      ({ State.reset with sub.curRead.pointer := 7 }).sub.curRead.pointer = 7 := by decide +kernel

/-- HoldingRegisters: a blue write and a byte 7 with a full queue, and with a queue of 7 and no credit. -/
theorem meets_HoldingRefusals :
    let s (queued unread : Nat) : State :=
      { at' .member with
        sub.palWrite.pointer := .blue, sub.curWrite.pointer := 7
        sub.outbound := List.replicate queued ⟨.background 1, .waiting⟩
        sub.receipts := List.replicate unread ⟨1, .background, .applied, some 90⟩ }
    8 ≤ (s 8 0).sub.outbound.length ∧ 0 < (s 8 0).credits ∧ (s 7 9).sub.outbound.length < 8 ∧ (s 7 9).credits = 0 ∧
      (s 7 9).sub.palWrite.pointer = .blue ∧ (s 7 9).sub.curWrite.pointer = 7 ∧
      (effect (.palDataWrite 5) (s 8 0)).sub.refusalReason = .queueFull ∧
      (effect (.cursorDataWrite 5) (s 7 9)).sub.refusalReason = .noCredit := by decide +kernel

/-- ReceiptAndSubmitStatusReads: a FIFO with a receipt under the credit law, and an empty one. -/
theorem meets_ReceiptAndSubmitStatusReads :
    (let s : State := { at' .member with sub.receipts := [⟨90, .palette, .applied, some 503⟩] }
     s.sub.receipts ≠ [] ∧ CreditInv s) ∧ State.reset.sub.receipts = [] := by
  unfold CreditInv; decide +kernel

/-! Control port and panel service. -/

/-- ConfigWriteJudged: the ends of each range, in OFFLINE and out of it, and shorter transactions. -/
theorem meets_ConfigWriteJudged :
    (effect (.configWrite .tile [64, 0, 0, 16]) (at' .offline)).cfg.tileH = 4096 ∧
      (effect (.configWrite .tile [63, 0, 0, 16]) (at' .offline)).events.wall.writeIgnored = true ∧
      (effect (.configWrite .wall [0x40, 0x9C, 15, 15, 1]) (at' .offline)).cfg.period = 40000 ∧
      (effect (.configWrite .wall [0x40, 0x9C, 16, 15, 1]) (at' .offline)).cfg.period = 16667 ∧
      (effect (.configWrite .wall [0x10, 0x27, 1, 2, 0]) (at' .member)).events.wall.writeIgnored = true ∧
      (effect (.configWrite .wall [0x10, 0x27, 1, 2]) (at' .offline)).cfg = defaultConfiguration := by decide +kernel

/-- StatusRegistersReturnState and RegisterMapNamesCommands: indices at the ends of each run of the map, bytes at the ends of a width, and
data bytes up to a register's width and beyond it. -/
theorem meets_RegisterMap :
    (registerAt 0x7F = none ∧ registerAt 0x4D = some (.stage 13) ∧ registerAt 0x31 = some .palData ∧
        registerAt 0x34 = some .cursorData ∧ registerAt 0x0D = some .windowsLive ∧ widthOf .windowsLive = 128) ∧
      (writeIgnoredAt 0x1F = true ∧ writeIgnoredAt 0x20 = false ∧ writeIgnoredAt 0x22 = false ∧ writeIgnoredAt 0x23 = true ∧
        writeIgnoredAt 0x2A = true ∧ writeIgnoredAt 0x35 = true ∧ writeIgnoredAt 0x3F = true ∧ writeIgnoredAt 0x40 = false ∧
        writeIgnoredAt 0x4D = false ∧ writeIgnoredAt 0x4E = true) ∧
      (writeCommand 0x20 [1, 2, 3] 4).isSome = true ∧ writeCommand 0x20 [1, 2, 3, 4] 5 = none ∧
      (writeCommand 0x21 [1, 2, 3, 4] 5).isSome = true ∧ writeCommand 0x21 [1, 2, 3, 4, 5] 6 = none ∧ writeCommand 0x22 [1] 2 = none ∧
      readCommand 0x2A 1 = none ∧ readCommand 0x31 1 = some .palDataRead ∧
      (let s : State := { State.reset with sub.stage := State.reset.sub.stage.set 13 9 }
       readDataByte 0x40 s 13 = 9 ∧ readDataByte 0x4D s 0 = 9 ∧ readDataByte 0x4D s 1 = 0 ∧ readDataByte 0x03 s 1 = 1 ∧
         readDataByte 0x03 s 3 = 0) := by decide +kernel

/-- SpiTransactionTakesCommands: not selected, and selected before the index byte; a WRITE of PAL_DATA whose byte is its command, and a byte
of IRQ_ENABLE that is none; a READ that is a command, and one that is none. -/
theorem meets_SpiTransactionTakesCommands :
    State.reset.port.selected = false ∧ State.reset.spiSelect.port.selected = true ∧ State.reset.spiSelect.port.transaction = none ∧
      writeCommand 0x31 [] 10 = some (.palDataWrite 10) ∧ writeCommand 0x22 [1] 10 = none ∧ readCommand 0x2A 0 = some .receiptRead ∧
      readCommand 0x02 0 = none ∧ readsEachByte 0x2A = false ∧ readsEachByte 0x31 = true := by decide +kernel

/-- A palette write on the pins: index byte 30h, index 17; index byte 31h, red 200, green 40; SPI_CS_N rises within the blue byte. -/
theorem test_spiPaletteWrite :
    let s := effect .spiTransactionEnd (((at' .member).spiSelect.spiShift 0x30).spiShift 17)
    let t := effect .spiTransactionEnd ((((s.spiSelect.spiShift 0x31).spiShift 200).spiShift 40).spiClock true)
    t.sub.palWrite = ⟨17, .blue, ⟨200, 40, 0⟩⟩ ∧ t.sub.outbound = [] ∧ t.port = idlePort := by decide +kernel

/-- A read of FRAME_NUMBER on the pins, index byte 82h: frame 0x0164 comes low byte first, each high bit first, and then zeros. -/
theorem test_spiFrameNumberRead :
    let s : State := { at' .member with timer.frame := 0x0164 }
    let r := s.spiSelect.spiShift 0x82
    let shown (u : State) : List (Option Bool) :=
      (List.range 8).map fun j => ((List.replicate j true).foldl (fun u b => u.spiClock b) u).miso
    shown r = (bitsOfByte 0x64).map some ∧ shown (r.spiShift 0) = (bitsOfByte 0x01).map some ∧
      shown ((r.spiShift 0).spiShift 0) = (bitsOfByte 0).map some := by decide +kernel

/-- A service controller that obeys its law, with a power state, a request and a pending command. -/
def panel (power : PowerState) (request : Bool) (command : ServiceCommand) (pgood : Bool) : State :=
  { State.reset with
    svc := { State.reset.svc with
      presence := ⟨true, true, none⟩, latch := ⟨false, true, some 5⟩, request := request, power := power
      powerTimer := if power = .rising ∨ power = .falling then some 3 else none, command := command, pgood := pgood } }

theorem panelInv_of (s : State)
    (h : (s.svc.powerTimer.isSome = true ↔ s.svc.power = .rising ∨ s.svc.power = .falling) ∧
      (s.svc.command ≠ .none → s.svc.power = .rising ∨ s.svc.power = .falling) ∧
      (s.svc.command = .powerOff → s.svc.request = false) ∧
      (s.svc.power = .rising ∨ s.svc.power = .on → s.svc.request = true ∧ s.svc.presence.value = true ∧ s.svc.latch.value = true) ∧
      ∀ i ∈ [s.svc.presence, s.svc.latch, s.svc.button], i.timer.isSome = true ↔ i.raw ≠ i.value) : PanelInv s := by
  refine ⟨h.1, h.2.1, h.2.2.1, h.2.2.2.1, fun p => ?_⟩
  have := h.2.2.2.2
  cases p
  · exact this _ (by simp [Service.input])
  · exact this _ (by simp [Service.input])
  · exact this _ (by simp [Service.input])

/-- PanelInputsPowerAndButton, ServiceCommands and PowerSupplyEvents: each power state under the law, with and without a pending
command and power good, the latch about to open. -/
theorem meets_PanelPower :
    PanelInv (panel .off true .none false) ∧ PanelInv (panel .rising true .powerOn false) ∧ PanelInv (panel .rising true .none true) ∧
      PanelInv (panel .on true .none true) ∧ PanelInv (panel .on true .none false) ∧ PanelInv (panel .falling false .powerOff true) ∧
      PanelInv (panel .falling true .powerOn true) ∧ PanelInv (panel .fault true .none false) ∧
      ((panel .on true .none true).svc.input .latch).timer.isSome = true ∧ (panel .off false .none false).svc.command = .none :=
  ⟨panelInv_of _ (by decide), panelInv_of _ (by decide), panelInv_of _ (by decide), panelInv_of _ (by decide), panelInv_of _ (by decide),
    panelInv_of _ (by decide), panelInv_of _ (by decide), panelInv_of _ (by decide), rfl, rfl⟩

/-- PanelInputsPowerAndButton: in OFF, the latch opening under a request, and closing with no panel and with the request OFF; RISING with
power good high. -/
theorem meets_DebounceInOff :
    (let s := panel .off true .none false
     PanelInv s ∧ (s.svc.input .latch).timer.isSome = true ∧ (effect (.debounceExpiry .latch) s).svc.latch.value = false) ∧
      (let s : State :=
        { panel .off true .none false with svc.presence := ⟨false, false, none⟩, svc.latch := ⟨true, false, some 5⟩ }
       PanelInv s ∧ (effect (.debounceExpiry .latch) s).svc.power = .off) ∧
      (let s : State := { panel .off false .none false with svc.latch := ⟨true, false, some 5⟩ }
       PanelInv s ∧ (effect (.debounceExpiry .latch) s).svc.power = .off) ∧
      (let s := panel .rising true .powerOn true
       PanelInv s ∧ (effect (.debounceExpiry .latch) s).svc.power = .falling ∧
         (effect (.debounceExpiry .latch) s).svc.command = .powerOn) :=
  ⟨⟨panelInv_of _ (by decide), by decide⟩, ⟨panelInv_of _ (by decide), by decide⟩, ⟨panelInv_of _ (by decide), by decide⟩,
    panelInv_of _ (by decide), by decide⟩

/-- The latch opens in RISING before a power good that arrives with it (R166, R167, log 34): OFF, and the edge shows its level only. -/
theorem test_lossBeforePowerGood :
    let lost := effect (.debounceExpiry .latch) (panel .rising true .powerOn false)
    let u := effect .powerGood lost
    lost.svc.power = .off ∧ lost.svc.outcome = .doneHeld ∧ u.svc.power = .off ∧ u.svc.pgood = true := by decide

/-- PanelInputsPowerAndButton: a line that changes away from the debounced value, one that returns to it, and one already at the level. -/
theorem meets_PanelLine :
    (State.reset.svc.input .presence).raw = false ∧ (State.reset.svc.input .presence).value = false ∧
      ((panel .on true .none true).svc.input .latch).raw = false ∧ ((panel .on true .none true).svc.input .latch).value = true := by
  decide

/-- PanelInputsPowerAndButton: a press about to be taken, in MEMBER, LISTENING and OFFLINE, with and without auto-leave. -/
theorem meets_ButtonPress :
    let pressed (st : StationState) (auto : Bool) : State :=
      { at' st with cfg.autoLeave := auto, svc.button := ⟨true, false, some 640000⟩ }
    (pressed .member true).svc.button = ⟨true, false, (pressed .member true).svc.button.timer⟩ ∧
      (pressed .member true).svc.button.timer.isSome = true ∧ (pressed .member true).ctl.state = .member ∧
      (pressed .listening true).ctl.state = .listening ∧ (pressed .offline true).ctl.state = .offline ∧
      (pressed .member false).cfg.autoLeave = false := by decide

/-- A press with auto-leave (R52, R49): a MEMBER with a stream leaves at frame 103, or at 104 when its own slot has opened; a JOINING
station goes to OFFLINE at once. -/
theorem test_autoLeave :
    let pressed (st : StationState) (opened : Bool) : State :=
      { at' st with
        cfg.autoLeave := true, svc.button := ⟨true, false, some 640000⟩, timer.ownOpened := opened
        snap.streaming := decide (st = .member) }
    let t (st : StationState) (opened : Bool) := effect (.debounceExpiry .button) (pressed st opened)
    (t .member false).ctl.leaveFrame = some 103 ∧ (t .member true).ctl.leaveFrame = some 104 ∧
      (t .member true).snap.streaming = false ∧ (t .member true).svc.led = .blink ∧
      (t .joining true).ctl.state = .offline ∧ (t .joining true).svc.led = .on ∧ (t .joining true).ctl.requestedLeave = false := by
  decide +kernel

/-- PanelInputsPowerAndButton: a release about to be taken. -/
theorem meets_ButtonRelease :
    let s : State := { at' .member with cfg.autoLeave := true, svc.button := ⟨false, true, some 640000⟩ }
    s.svc.button = ⟨false, true, s.svc.button.timer⟩ ∧ s.svc.button.timer.isSome = true := by decide

/-- PowerSupplyEvents: FALLING with the condition holding and a POWER_ON pending, and with the latch open and a POWER_ON pending (R171). -/
theorem meets_PowerLostInFalling :
    (let s := panel .falling true .powerOn true
     PanelInv s ∧ s.svc.request = true ∧ s.svc.presence.value = true ∧ s.svc.latch.value = true) ∧
      (let s : State := { panel .falling true .powerOn true with svc.latch := ⟨false, false, none⟩ }
       PanelInv s ∧ s.svc.latch.value = false ∧ (effect .powerGoodLost s).svc.outcome = .doneHeld) :=
  ⟨⟨panelInv_of _ (by decide), by decide⟩, panelInv_of _ (by decide), by decide, by decide⟩

/-- ServiceCommands: an LED field at the ends of its range, with no command pending and with one. -/
theorem meets_ServiceLedField :
    State.reset.svc.command = .none ∧ (panel .rising true .powerOn false).svc.command ≠ .none ∧ 4 ≤ (4 : BitVec 3).toNat ∧
      4 ≤ (7 : BitVec 3).toNat ∧ ledField 3 = some .blink := by decide

/-- The statements that every step keeps an invariant: a MEMBER station meets each invariant, and its step answers a next state. -/
theorem meets_StepKeeps :
    ConfigInv (at' .member) ∧ ListInv (at' .member) ∧ CreditInv (at' .member) ∧ ShowInv (at' .member) ∧ ViewInv (at' .member) ∧
      PanelInv (at' .member) ∧ StationInv (at' .member) ∧ ∃ t, step (at' .member) = .next t := by
  refine ⟨rfl, ?_, ?_, rfl, ?_, panelInv_of _ (by decide), ?_, _, rfl⟩
  · unfold ListInv; decide
  · unfold CreditInv; decide
  · unfold ViewInv; decide
  · constructor <;> decide +kernel

/-- StepKeepsComposition: a MEMBER station whose compositor has taken the tile of its straps. -/
theorem meets_StepKeepsComposition :
    let s : State := { at' .member with comp := resetCompositor (at' .member).straps (at' .member).cfg }
    ComposeInv s ∧ ∃ t, step s = .next t := by
  refine ⟨?_, _, rfl⟩
  unfold ComposeInv; decide +kernel

end Sys2Proof.Tests
end

/-! SUPPORT. What both resets leave in the wall side, the first frame start after it, and the bad-message counter of RESET_STATION. -/

namespace Sys2Proof.Machine

/-! ### The state that both resets leave (R19, R32, R61, R79, R98) -/

/-- The wall side after either reset: reset values everywhere, but for the three counters and the period, in which the resets differ. -/
structure State.WallReset (v : State) : Prop where
  ctl : v.ctl = resetController
  roster : v.roster = clearedRoster
  sub : v.sub = resetSubmission
  bus : ∃ bad, v.bus = resetBus bad
  timer : ∃ period early, v.timer = resetTimer period early
  sched : ∃ out, v.sched = resetSchedule out
  wall : v.events.wall = clearWall
  fault : v.events.fault = false

theorem State.afterPinReset_wallReset (pins : ResetPins) (q : List Instr) : (State.afterPinReset pins q).WallReset :=
  ⟨rfl, rfl, rfl, ⟨_, rfl⟩, ⟨_, _, rfl⟩, ⟨_, rfl⟩, rfl, rfl⟩

theorem State.resetStation_wallReset (s : State) : s.resetStation.WallReset :=
  ⟨rfl, rfl, rfl, ⟨_, rfl⟩, ⟨_, _, rfl⟩, ⟨_, rfl⟩, rfl, rfl⟩

theorem effect_pinReset (pins : ResetPins) (s : State) :
    effect (.pinReset pins) s = State.afterPinReset pins s.pending := rfl

theorem effect_resetStation (s : State) : effect .resetStation s = (s.portWrite (indexOf .command)).resetStation := rfl

/-- Whichever reset it was, the wall side has its reset values. -/
theorem wallReset_of_reset {pins : ResetPins} {s v : State}
    (h : v = effect (.pinReset pins) s ∨ v = effect .resetStation s) : v.WallReset := by
  obtain rfl | rfl := h
  · rw [effect_pinReset]; exact State.afterPinReset_wallReset pins s.pending
  · rw [effect_resetStation]; exact State.resetStation_wallReset _

/-- After a reset every position is ABSENT, the own one too, since it mirrors OFFLINE (R54, R61). -/
theorem State.WallReset.entry {v : State} (h : v.WallReset) (p : Position) : v.entry p = absentEntry := by
  unfold State.entry
  split
  · rw [h.ctl]; rfl
  · simp [h.roster, clearedRoster]

/-! ### The first frame start (R21, R23) -/

theorem State.endFrame_of_idle {s : State} (hslot : s.timer.openSlot = none) (hatt : s.bus.attempt ≠ .receiving) :
    s.endFrame = s := by
  simp [State.endFrame, State.closeOpenSlot, hslot, hatt]

theorem State.blockWork_of_offline {s : State} (h : s.ctl.state = .offline) : s.blockWork = s.sendDeferredWord := by
  simp [State.blockWork, h]

theorem State.frameStart_openSlot (ownTimer : Bool) (s : State) : (s.frameStart ownTimer).timer.openSlot = some 0 := rfl

/-- In OFFLINE no block's work touches the frame number that the timer has just counted (R23). -/
theorem State.frameStart_frame_of_offline {s : State} (ownTimer : Bool) (hstate : s.ctl.state = .offline)
    (hslot : s.timer.openSlot = none) (hatt : s.bus.attempt ≠ .receiving) :
    (s.frameStart ownTimer).timer.frame = s.timer.frame + 1 := by
  have hwork : (s.startTimer ownTimer).blockWork = (s.startTimer ownTimer).sendDeferredWord := State.blockWork_of_offline hstate
  rw [State.frameStart, State.endFrame_of_idle hslot hatt, hwork]
  rfl

/-- Before the first frame start there is no guard: in OFFLINE an edge starts the frame of the next number, with slot 0 open (R21, R23). -/
theorem State.strobeEdge_before_first_frame {s : State} (hstate : s.ctl.state = .offline) (hdrive : s.timer.driving = false)
    (hguard : s.timer.noGuard = true) (hslot : s.timer.openSlot = none) (hatt : s.bus.attempt ≠ .receiving) :
    s.strobeEdge.timer.frame = s.timer.frame + 1 ∧ s.strobeEdge.timer.openSlot = some 0 := by
  have hedge : s.strobeEdge = s.frameStart false := by simp [State.strobeEdge, hstate, hdrive, hguard]
  rw [hedge]
  exact ⟨State.frameStart_frame_of_offline false hstate hslot hatt, State.frameStart_openSlot false s⟩

/-- The first edge after a reset starts frame 1 with slot 0 open, at any reading of the timer (R21, R23, R32). -/
theorem State.WallReset.first_edge {v : State} (h : v.WallReset) (reading : Ticks) :
    (effect (.wbStrobeEdge reading) v).timer.frame = 1 ∧ (effect (.wbStrobeEdge reading) v).timer.openSlot = some 0 := by
  obtain ⟨bad, hbus⟩ := h.bus
  obtain ⟨period, early, htimer⟩ := h.timer
  have hdrive : (v.advance (reading - v.timer.elapsed)).endPulse.timer.driving = false := by
    simp [State.endPulse, State.advance, htimer, resetTimer]
  have hatt : v.bus.attempt = .off := congrArg Bus.attempt hbus
  have hframe : v.timer.frame + 1 = 1 := by rw [htimer]; rfl
  obtain ⟨hnumber, hslot⟩ := State.strobeEdge_before_first_frame
    (s := (v.advance (reading - v.timer.elapsed)).endPulse) (congrArg Controller.state h.ctl) hdrive
    (congrArg FrameTimer.noGuard htimer) (congrArg FrameTimer.openSlot htimer) (hatt.trans_ne (by decide))
  exact ⟨hnumber.trans hframe, hslot⟩

/-! ### The attempt that RESET_STATION ends (R2, R5, R17, R19) -/

theorem satInc_of_ne {c : Byte} (h : c ≠ 255) : satInc c = c + 1 := if_neg h

theorem State.readbackSlot_iff (s : State) :
    s.readbackSlot = true ↔ s.timer.openSlot = some s.own ∧ transmits s.ctl.state = true := by
  simp [State.readbackSlot]

/-- An attempt in progress is counted up to 255, unless it is the readback. -/
theorem State.badAtReset_eq (s : State) :
    s.badAtReset =
      if s.bus.attempt = .receiving ∧ s.ctl.state ≠ .loopback ∧ s.bus.badMessages ≠ 255 ∧
          ¬(s.timer.openSlot = some s.own ∧ transmits s.ctl.state = true) then s.bus.badMessages + 1
      else s.bus.badMessages := by
  by_cases hfull : s.bus.badMessages = 255
  · simp [State.badAtReset, satInc, hfull]
  · simp only [State.badAtReset, satInc_of_ne hfull, ← s.readbackSlot_iff, Bool.not_eq_true, ne_eq, hfull, not_false_eq_true,
      true_and, and_comm]

/-- The register access that carries the command leaves the counter's judgement as it is. -/
theorem State.badAtReset_portWrite (i : BitVec 7) (s : State) : (s.portWrite i).badAtReset = s.badAtReset := rfl

end Sys2Proof.Machine

/-! The obligation about the station, the roster, the wall bus, the frame timer and the schedule after the resets. -/

namespace Sys2Proof.Proofs
open Sys2Proof Sys2Proof.Machine

/-- Settles O4: both resets leave `State.WallReset`, from which the common values and the first frame start follow; what remains is
what each reset does to the straps, the period and the three counters. -/
theorem stationAndScheduleAfterReset : Obligations.StationAndScheduleAfterReset := by
  unfold Obligations.StationAndScheduleAfterReset
  constructor
  · intro pins s
    refine ⟨_, _, exec_eq_next _ _, exec_eq_next _ _, fun v hv => ?_, rfl, rfl, rfl, rfl⟩
    have h := wallReset_of_reset hv
    obtain ⟨bad, hbus⟩ := h.bus
    simp [h.ctl, resetController, h.entry, absentEntry, h.sub, resetSubmission, hbus, resetBus, h.wall, clearWall, h.fault]
  · intro pins s
    refine ⟨_, _, exec_eq_next _ _, exec_eq_next _ _, ?common, rfl, rfl, rfl, rfl, ?counted, rfl, rfl, rfl⟩
    case common =>
      intro v hv
      have h := wallReset_of_reset hv
      obtain ⟨bad, hbus⟩ := h.bus
      obtain ⟨period, early, htimer⟩ := h.timer
      obtain ⟨out, hsched⟩ := h.sched
      rw [exec_eq_next (.wbStrobeEdge 0) v]
      simp [h.first_edge 0, hbus, resetBus, htimer, resetTimer, hsched, resetSchedule]
    case counted =>
      show (s.portWrite (indexOf .command)).badAtReset = _
      rw [State.badAtReset_portWrite, State.badAtReset_eq]

end Sys2Proof.Proofs

/-! SUPPORT. The default objects, the tile of a position and the cursor at (0, 0) on it, and what both resets leave in the shared state. -/

namespace Sys2Proof.Machine

/-! ### The default objects (Table 7-2) -/

/-- Entry i of the default palette is (i, i, i). -/
@[simp] theorem paletteAt_default (i : Byte) : paletteAt defaultObjects.palette i = ⟨i, i, i⟩ := by
  simp [paletteAt, defaultObjects, defaultPalette]

@[simp] theorem defaultObjects_image (r : Nat) (h : r < 32) : defaultObjects.image[r] = Vector.replicate 8 0 := by
  simp [defaultObjects, blankRow]

@[simp] theorem defaultObjects_windows (i : Nat) (h : i < 8) : defaultObjects.windows[i] = none := by
  simp [defaultObjects]

@[simp] theorem defaultObjects_fields :
    defaultObjects.look = ⟨false, ⟨0, 0, 0⟩, ⟨255, 255, 255⟩⟩ ∧ defaultObjects.curX = 0 ∧ defaultObjects.curY = 0 ∧
      defaultObjects.background = 0 := ⟨rfl, rfl, rfl, rfl⟩

@[simp] theorem zeroImage_getElem (n : Nat) (h : n < 1184) : zeroImage[n] = 0 := by
  simp [zeroImage]

/-! ### The tile of a position, and the cursor at (0, 0) on it (R149, R157, R179) -/

theorem Configuration.tile_min {c : Configuration} (h : c.inRange = true) : 64 ≤ c.tileW.toNat ∧ 64 ≤ c.tileH.toNat := by
  simp only [Configuration.inRange, tileSizeValid, Bool.and_eq_true, decide_eq_true_eq] at h
  obtain ⟨⟨⟨hwidth, -⟩, hheight, -⟩, -⟩ := h
  exact ⟨hwidth, hheight⟩

theorem defaultConfiguration_inRange : defaultConfiguration.inRange = true := rfl

theorem tileRect_of_pos_zero {p : Straps} (c : Configuration) (h : p.pos = 0) :
    tileRect p c = ⟨0, c.tileW.toNat, 0, c.tileH.toNat⟩ := by
  simp [tileRect, h]

/-- Every position but 0 is in a later column or in a later row. -/
theorem Straps.column_or_row_pos {p : Straps} (h : p.pos ≠ 0) :
    1 ≤ p.pos.val % p.columns ∨ 1 ≤ p.pos.val / p.columns := by
  have hpos : 0 < p.pos.val := Nat.pos_of_ne_zero fun h0 => h (Fin.ext h0)
  have hcolumns : 0 < p.columns := Nat.succ_pos _
  obtain hfirst | hlater := Nat.lt_or_ge p.pos.val p.columns
  · exact .inl ((Nat.mod_eq_of_lt hfirst).symm ▸ hpos)
  · exact .inr (Nat.div_pos hlater hcolumns)

/-- The tile of every position but 0 begins at least one tile to the right of the canvas's left edge, or one below its top edge. -/
theorem tileRect_of_pos_ne_zero {p : Straps} (c : Configuration) (h : p.pos ≠ 0) :
    c.tileW.toNat ≤ (tileRect p c).x0 ∨ c.tileH.toNat ≤ (tileRect p c).y0 := by
  refine (Straps.column_or_row_pos h).imp (fun hcol => ?_) fun hrow => ?_
  · exact Int.ofNat_le.2 (Nat.le_mul_of_pos_left c.tileW.toNat hcol)
  · exact Int.ofNat_le.2 (Nat.le_mul_of_pos_left c.tileH.toNat hrow)

/-- A tile at the canvas's origin with room for the whole cursor holds it from its first pixel on. -/
theorem placementOf_zero_of_origin {w h : Nat} (hw : 32 ≤ w) (hh : 32 ≤ h) :
    placementOf ⟨0, w, 0, h⟩ 0 0 = some ⟨0, 0, 0, 0, 32, 32⟩ := by
  have hpart : (cursorRect 0 0).inter ⟨0, w, 0, h⟩ = ⟨0, 32, 0, 32⟩ := by
    simp [cursorRect, Rect.inter, hw, hh]
  rw [placementOf, hpart]
  rfl

/-- A tile that begins beyond the cursor's 32 columns or its 32 rows holds nothing of it. -/
theorem placementOf_zero_of_beyond {tile : Rect} (h : 32 ≤ tile.x0 ∨ 32 ≤ tile.y0) : placementOf tile 0 0 = none := by
  have hempty : ((cursorRect 0 0).inter tile).nonempty = false := by
    simp [cursorRect, Rect.inter, Rect.nonempty]; omega
  rw [placementOf, hempty]
  rfl

/-- The default cursor is on the tile of position 0, whole, and on no other tile (R157, R162). -/
theorem placementOf_tileRect_zero {c : Configuration} (p : Straps) (h : c.inRange = true) :
    placementOf (tileRect p c) 0 0 = if p.pos = 0 then some ⟨0, 0, 0, 0, 32, 32⟩ else none := by
  obtain ⟨hwidth, hheight⟩ := Configuration.tile_min h
  split
  case isTrue hpos =>
    rw [tileRect_of_pos_zero c hpos]
    exact placementOf_zero_of_origin (by omega) (by omega)
  case isFalse hpos =>
    refine placementOf_zero_of_beyond ((tileRect_of_pos_ne_zero c hpos).imp (fun hx => ?_) fun hy => ?_) <;> omega

/-! ### The shared state that both resets leave (R114, R128, R148, R162, R189) -/

/-- The objects, the show controller, the snapshot unit, the compositor and the FRAME events after either reset, over a configuration in
range. -/
structure State.SharedReset (v : State) : Prop where
  cfg : ConfigInv v
  obj : v.obj = defaultObjects
  shows : v.shows = resetShow
  snap : v.snap = resetSnapshot
  comp : v.comp = resetCompositor v.straps v.cfg
  frame : v.events.frame = clearFrame

theorem State.afterPinReset_sharedReset (pins : ResetPins) (q : List Instr) : (State.afterPinReset pins q).SharedReset :=
  ⟨defaultConfiguration_inRange, rfl, rfl, rfl, rfl, rfl⟩

theorem State.resetStation_sharedReset {s : State} (h : ConfigInv s) : s.resetStation.SharedReset :=
  ⟨h, rfl, rfl, rfl, rfl, rfl⟩

/-- Whichever reset it was, the shared state has its reset values. -/
theorem sharedReset_of_reset {pins : ResetPins} {s v : State} (hcfg : ConfigInv s)
    (h : v = effect (.pinReset pins) s ∨ v = effect .resetStation s) : v.SharedReset := by
  obtain rfl | rfl := h
  · rw [effect_pinReset]; exact State.afterPinReset_sharedReset pins s.pending
  · rw [effect_resetStation]; exact State.resetStation_sharedReset hcfg

/-- An empty queue, an empty list and an empty FIFO leave every credit free (R78). -/
theorem State.WallReset.credits {v : State} (h : v.WallReset) : v.inFlight = 0 ∧ v.credits = 16 := by
  obtain ⟨out, hsched⟩ := h.sched
  have hflight : v.inFlight = 0 := by simp [State.inFlight, hsched, resetSchedule]
  exact ⟨hflight, by simp [State.credits, State.creditsUsed, hflight, h.sub, resetSubmission, Config.creditTotal]⟩

/-! ### The reads of RECEIPT and SUBMIT_STATUS (R67, R77) -/

theorem effect_receiptRead (s : State) :
    effect .receiptRead s = { s.portReadWhole 0x2A s.receiptRegister with sub.receipts := s.sub.receipts.tail } := rfl

theorem effect_submitStatusRead (s : State) :
    effect .submitStatusRead s = { s.portReadWhole 0x05 s.submitStatusBytes with sub.refused := false } := rfl

theorem State.receiptRegister_cons {s : State} {r : Receipt} {rest : List Receipt} (h : s.sub.receipts = r :: rest) :
    s.receiptRegister =
      [r.seq, kindCode r.kind, outcomeCode r.outcome, (r.eff.getD 0).extractLsb' 0 8, (r.eff.getD 0).extractLsb' 8 8] := by
  rw [State.receiptRegister, h]; rfl

theorem State.receiptRegister_nil {s : State} (h : s.sub.receipts = []) : s.receiptRegister = [0, 0, 0, 0, 0] := by
  rw [State.receiptRegister, h]; rfl

/-- Within the credit law, a receipt taken from the FIFO frees its credit (R78). -/
theorem State.credits_of_receipt_removed {s t : State} (hlaw : CreditInv s) (hout : t.sub.outbound = s.sub.outbound)
    (hflight : t.inFlight = s.inFlight) (hrec : s.sub.receipts.length = t.sub.receipts.length + 1) :
    t.credits = s.credits + 1 := by
  obtain ⟨-, htotal⟩ := hlaw
  unfold State.credits State.creditsUsed
  rw [hout, hflight]
  omega

theorem State.submitStatusBytes_eq (s : State) :
    s.submitStatusBytes =
      [BitVec.ofNat 8 (16 - (s.sub.outbound.length + s.inFlight + s.sub.receipts.length)),
        BitVec.ofNat 8 s.sub.outbound.length, BitVec.ofNat 8 s.inFlight, BitVec.ofNat 8 s.sub.receipts.length,
        if s.sub.refused then 1 else 0, refusalCode s.sub.refusalReason, pathCode s.sub.refusalPath] := rfl

end Sys2Proof.Machine

/-! The obligations about change records and submission: the shared state after the resets, the reads of RECEIPT and SUBMIT_STATUS. -/

namespace Sys2Proof.Proofs
open Sys2Proof Sys2Proof.Machine

/-- Settles O5: both resets leave `State.WallReset` and `State.SharedReset`, and the default cursor at (0, 0) reaches the tile of
position 0 only, as no tile in range is narrower or lower than the cursor. -/
theorem sharedStateAfterReset : Obligations.SharedStateAfterReset := by
  unfold Obligations.SharedStateAfterReset
  intro pins s hcfg
  refine ⟨_, _, exec_eq_next _ _, exec_eq_next _ _, fun v hv => ?_⟩
  have hwall := wallReset_of_reset hv
  have hshared := sharedReset_of_reset hcfg hv
  obtain ⟨bad, hbus⟩ := hwall.bus
  obtain ⟨out, hsched⟩ := hwall.sched
  have hplacement := placementOf_tileRect_zero v.straps hshared.cfg
  simpa [hwall.sub, resetSubmission, blankRow, hwall.credits, hshared.obj, hsched, resetSchedule, hbus, resetBus, hshared.shows, resetShow,
    hshared.snap, resetSnapshot, hshared.comp, resetCompositor, hshared.frame, clearFrame] using hplacement

/-- Settles O44, by the two cases of the receipt FIFO; the credit that a read frees follows from the credit law. -/
theorem receiptAndSubmitStatusReads : Obligations.ReceiptAndSubmitStatusReads := by
  unfold Obligations.ReceiptAndSubmitStatusReads
  refine ⟨fun s => ⟨?oldest, ?credit, ?empty⟩, fun s => ?status⟩
  case oldest =>
    intro r rest hrec
    rw [exec_eq_next, effect_receiptRead, State.receiptRegister_cons hrec, hrec]
    rfl
  case credit =>
    intro hne hlaw
    refine ⟨_, exec_eq_next _ _, State.credits_of_receipt_removed hlaw rfl rfl ?_⟩
    rw [effect_receiptRead]
    simp only [List.length_tail]
    have := List.length_pos_of_ne_nil hne
    omega
  case empty =>
    intro hrec
    have hkept : s.sub.receipts.tail = s.sub.receipts := by rw [hrec]; rfl
    rw [exec_eq_next, effect_receiptRead, State.receiptRegister_nil hrec, hkept]
    rfl
  case status =>
    rw [exec_eq_next, effect_submitStatusRead, State.submitStatusBytes_eq]

end Sys2Proof.Proofs

/-! SUPPORT. Records at apply: the conditions of Table 5-2 on each kind, and what a valid record of each kind writes. -/

namespace Sys2Proof.Machine

/-! ### The judgement at apply (R101, R102) -/

theorem applyObject_of_valid {g : Geometry} {c : Change} (o : Objects) (h : changeValid g c = true) :
    applyObject g c o = (writeObject c o, .applied) := if_pos h

theorem applyObject_of_invalid {g : Geometry} {c : Change} (o : Objects) (h : changeValid g c = false) :
    applyObject g c o = (o, .rejectedField) := if_neg (by rw [h]; decide)

/-! ### The conditions on the fields of each kind (R64, Table 5-2) -/

theorem cursorCoordValid_iff (extent : Nat) (v : Half) :
    cursorCoordValid extent v = true ↔ -31 ≤ v.toInt ∧ v.toInt ≤ (extent : Int) - 1 := decide_eq_true_iff

theorem windowValid_iff (g : Geometry) (w : Window) :
    windowValid g w = true ↔
      w.source.toNat ≤ 7 ∧ w.layer.toNat ≤ 7 ∧ 0 ≤ w.x.toInt ∧ 0 ≤ w.y.toInt ∧ 8 ≤ w.width.toNat ∧ 8 ≤ w.height.toNat ∧
        w.x.toInt + w.width.toNat ≤ g.canvasW ∧ w.y.toInt + w.height.toNat ≤ g.canvasH ∧
        w.panX.toNat ≤ 4095 ∧ w.panY.toNat ≤ 4095 := decide_eq_true_iff

theorem changeValid_palette (g : Geometry) (i : Byte) (colour : RGB) : changeValid g (.palette i colour) = true := rfl

theorem changeValid_background (g : Geometry) (i : Byte) : changeValid g (.background i) = true := rfl

theorem changeValid_cursorMove_iff (g : Geometry) (x y : Half) :
    changeValid g (.cursorMove x y) = true ↔
      (-31 ≤ x.toInt ∧ x.toInt ≤ (g.canvasW : Int) - 1) ∧ -31 ≤ y.toInt ∧ y.toInt ≤ (g.canvasH : Int) - 1 := by
  simp only [changeValid, Bool.and_eq_true, cursorCoordValid_iff]

theorem changeValid_cursorLook_iff (g : Geometry) (v : Byte) (a b : RGB) :
    changeValid g (.cursorLook v a b) = true ↔ v.toNat ≤ 1 := decide_eq_true_iff

theorem changeValid_cursorRow_iff (g : Geometry) (r : Byte) (codes : CursorBytes) :
    changeValid g (.cursorRow r codes) = true ↔ r.toNat ≤ 31 := decide_eq_true_iff

theorem changeValid_windowAbsent_iff (g : Geometry) (id : BitVec 4) :
    changeValid g (.windowAbsent id) = true ↔ id.toNat ≤ 7 := decide_eq_true_iff

theorem changeValid_windowPresent_iff (g : Geometry) (id flag : BitVec 4) (w : Window) :
    changeValid g (.windowPresent id flag w) = true ↔ id.toNat ≤ 7 ∧ flag = 1 ∧ windowValid g w = true := by
  simp only [changeValid, Bool.and_eq_true, decide_eq_true_iff, and_assoc]

/-- A byte of at most 1 is NO or YES (Table 13-3). -/
theorem byte_le_one_iff (v : Byte) : v.toNat ≤ 1 ↔ v = 0 ∨ v = 1 := by
  constructor
  · intro h; bv_omega
  · rintro (rfl | rfl) <;> decide

/-- Each command code with the arguments it takes; no other code names a command (Table 5-1, Table 13-3). -/
theorem showFieldsValid_iff (c a : Byte) :
    showFieldsValid c a = true ↔
      ((c = 1 ∨ c = 2 ∨ c = 3 ∨ c = 5) ∧ a = 0) ∨ (c = 4 ∧ 2 ≤ a.toNat ∧ a.toNat ≤ 8) ∨ (c = 6 ∧ a.toNat ≤ 1) := by
  have code (n : Byte) : c = n ↔ c.toNat = n.toNat := BitVec.toNat_inj.symm
  simp only [code]
  unfold showFieldsValid
  split
  case h_7 =>
    -- every disjunct names a code that the match has already taken
    simp_all
  all_goals
    rename_i hcode
    simp [hcode]

/-! ### What a valid record writes (R103 to R106) -/

theorem writeObject_cursorRow {r : Byte} (codes : CursorBytes) (o : Objects) (h : r.toNat < 32) :
    writeObject (.cursorRow r codes) o = { o with image := o.image.set r.toNat codes } := dif_pos h

theorem writeObject_windowAbsent {id : BitVec 4} (o : Objects) (h : id.toNat < 8) :
    writeObject (.windowAbsent id) o = { o with windows := o.windows.set id.toNat none } := dif_pos h

theorem writeObject_windowPresent {id : BitVec 4} (flag : BitVec 4) (w : Window) (o : Objects) (h : id.toNat < 8) :
    writeObject (.windowPresent id flag w) o = { o with windows := o.windows.set id.toNat (some w) } := dif_pos h

end Sys2Proof.Machine

/-! The obligation about the records at apply. -/

namespace Sys2Proof.Proofs
open Sys2Proof Sys2Proof.Machine

/-- Settles O34, kind by kind: the fields meet the conditions of the kind, so the record is judged valid and writes what its kind names. -/
theorem recordsJudgedAndWritten : Obligations.RecordsJudgedAndWritten := by
  unfold Obligations.RecordsJudgedAndWritten
  refine ⟨fun g o => ⟨?palette, ?background, ?cursorMove, ?cursorLook, ?cursorRow, ?windowAbsent, ?windowPresent⟩,
    fun g o c => applyObject_of_invalid o, fun g => ⟨changeValid_palette g, changeValid_background g, changeValid_cursorMove_iff g,
      ?lookValid, changeValid_cursorRow_iff g, changeValid_windowAbsent_iff g, ?presentValid, showFieldsValid_iff⟩⟩
  case palette =>
    intro i colour
    exact applyObject_of_valid o (changeValid_palette g i colour)
  case background =>
    intro i
    exact applyObject_of_valid o (changeValid_background g i)
  case cursorMove =>
    intro x y hx0 hx1 hy0 hy1
    exact applyObject_of_valid o ((changeValid_cursorMove_iff g x y).2 ⟨⟨hx0, hx1⟩, hy0, hy1⟩)
  case cursorLook =>
    intro v a b hv
    exact applyObject_of_valid o ((changeValid_cursorLook_iff g v a b).2 hv)
  case cursorRow =>
    intro r codes hr
    rw [applyObject_of_valid o ((changeValid_cursorRow_iff g r codes).2 (Nat.le_of_lt_succ hr)), writeObject_cursorRow codes o hr]
  case windowAbsent =>
    intro id hid
    rw [applyObject_of_valid o ((changeValid_windowAbsent_iff g id).2 (Nat.le_of_lt_succ hid)), writeObject_windowAbsent o hid]
  case windowPresent =>
    intro id w hid hw
    rw [applyObject_of_valid o ((changeValid_windowPresent_iff g id 1 w).2 ⟨Nat.le_of_lt_succ hid, rfl, hw⟩),
      writeObject_windowPresent 1 w o hid]
  case lookValid =>
    intro v a b
    rw [changeValid_cursorLook_iff, byte_le_one_iff]
  case presentValid =>
    intro id flag w
    rw [changeValid_windowPresent_iff, windowValid_iff]

end Sys2Proof.Proofs

/-! SUPPORT. The three outcomes of a SHOW record at its judgement, and the fields that each command takes. -/

namespace Sys2Proof.Machine

/-! ### The judgement of a SHOW record in its two steps (R116, R117) -/

theorem judgeShow_of_invalid {c a : Byte} (k : ShowControl) (h : showFieldsValid c a = false) :
    judgeShow c a k = (k, .rejectedField) := if_neg (by rw [h]; decide)

theorem judgeShow_of_rejected {c a : Byte} {k : ShowControl} (hfields : showFieldsValid c a = true)
    (hcell : showTable c a k.state = none) : judgeShow c a k = (k, .rejectedOrder) := by
  simp [judgeShow, hfields, hcell]

theorem judgeShow_of_allowed {c a : Byte} {k : ShowControl} {st : ShowState} {word : SourceWord}
    (hfields : showFieldsValid c a = true) (hcell : showTable c a k.state = some (st, word)) :
    judgeShow c a k = ({ k with state := st, countdown := entryCountdown st, transition := word }, .applied) := by
  simp [judgeShow, hfields, hcell]

/-! ### The commands whose fields are valid (Table 13-3) -/

/-- START, HOLD, STEP and RESUME carry no argument. -/
theorem showFieldsValid_plain {c : Byte} (h : c = 1 ∨ c = 2 ∨ c = 3 ∨ c = 5) : showFieldsValid c 0 = true :=
  (showFieldsValid_iff c 0).2 (.inl ⟨h, rfl⟩)

theorem showFieldsValid_pace {n : Byte} (hlow : 2 ≤ n.toNat) (hhigh : n.toNat ≤ 8) : showFieldsValid 4 n = true :=
  (showFieldsValid_iff 4 n).2 (.inr (.inl ⟨rfl, hlow, hhigh⟩))

theorem showFieldsValid_stop {a : Byte} (h : a.toNat ≤ 1) : showFieldsValid 6 a = true :=
  (showFieldsValid_iff 6 a).2 (.inr (.inr ⟨rfl, h⟩))

/-! ### The row of STOP (Table 8-1) -/

theorem showTable_stop_of_stopped (a : Byte) (m : StopMode) : showTable 6 a (.stopped m) = none := rfl

/-- In every state but STOPPED a STOP is allowed, and its argument says what stays in the windows. -/
theorem showTable_stop {st : ShowState} (a : Byte) (h : ∀ m, st ≠ .stopped m) :
    showTable 6 a st = if a = 0 then some (.stopped .keep, .stopKeep) else some (.stopped .blank, .stopBlank) := by
  cases st with
  | stopped m => exact absurd rfl (h m)
  | running => rfl
  | held => rfl
  | paced n => rfl

end Sys2Proof.Machine

/-! The obligation about the SHOW commands. -/

namespace Sys2Proof.Proofs
open Sys2Proof Sys2Proof.Machine

/-- Settles O35, command by command: the fields are valid, so the cell of Table 8-1 for the show state decides, and a cell that is
"rej" gives REJECTED_ORDER. -/
theorem showTable : Obligations.ShowTable := by
  unfold Obligations.ShowTable
  intro k m f go becomes rejected
  refine ⟨?start, ?hold, ?step, ?pace, ?resume, ?stop, ?stopKeepStopped, ?stopBlankStopped, fun c a => judgeShow_of_invalid k⟩
  case start =>
    have hfields : showFieldsValid 1 0 = true := showFieldsValid_plain (by decide)
    exact ⟨judgeShow_of_allowed hfields rfl, judgeShow_of_rejected hfields rfl, judgeShow_of_rejected hfields rfl,
      judgeShow_of_rejected hfields rfl⟩
  case hold =>
    have hfields : showFieldsValid 2 0 = true := showFieldsValid_plain (by decide)
    exact ⟨judgeShow_of_rejected hfields rfl, judgeShow_of_allowed hfields rfl, judgeShow_of_rejected hfields rfl,
      judgeShow_of_allowed hfields rfl⟩
  case step =>
    have hfields : showFieldsValid 3 0 = true := showFieldsValid_plain (by decide)
    exact ⟨judgeShow_of_rejected hfields rfl, judgeShow_of_rejected hfields rfl, judgeShow_of_allowed hfields rfl,
      judgeShow_of_allowed hfields rfl⟩
  case pace =>
    intro n hlow hhigh
    have hfields : showFieldsValid 4 n = true := showFieldsValid_pace hlow hhigh
    exact ⟨judgeShow_of_rejected hfields rfl, judgeShow_of_allowed hfields rfl, judgeShow_of_allowed hfields rfl,
      judgeShow_of_allowed hfields rfl⟩
  case resume =>
    have hfields : showFieldsValid 5 0 = true := showFieldsValid_plain (by decide)
    exact ⟨judgeShow_of_rejected hfields rfl, judgeShow_of_rejected hfields rfl, judgeShow_of_allowed hfields rfl,
      judgeShow_of_allowed hfields rfl⟩
  case stop =>
    intro st hst
    have hcell (a : Byte) := showTable_stop (st := st) a (by rintro m' rfl; simp at hst)
    exact ⟨judgeShow_of_allowed (showFieldsValid_stop (by decide)) (hcell 0),
      judgeShow_of_allowed (showFieldsValid_stop (by decide)) (hcell 1)⟩
  case stopKeepStopped =>
    exact judgeShow_of_rejected (showFieldsValid_stop (by decide)) (showTable_stop_of_stopped 0 m)
  case stopBlankStopped =>
    exact judgeShow_of_rejected (showFieldsValid_stop (by decide)) (showTable_stop_of_stopped 1 m)

end Sys2Proof.Proofs

/-! SUPPORT. The recomputes of the compositor: the flags and events of a view list and of a cursor placement, and the bounds of a placement. -/

namespace Sys2Proof.Machine

/-! ### The view-overflow flag (R152) -/

theorem State.refreshViews_overflow_iff (s : State) :
    s.refreshViews.comp.overflow = true ↔ 4 < s.refreshViews.comp.qualifying := decide_eq_true_iff

/-- VIEW_OVERFLOW is raised when the flag goes from clear to set, and a flag that stays set raises nothing. -/
theorem State.refreshViews_viewOverflow_iff (s : State) :
    s.refreshViews.events.frame.viewOverflow = true ↔
      s.events.frame.viewOverflow = true ∨ (s.refreshViews.comp.overflow = true ∧ s.comp.overflow = false) := by
  simp [State.refreshViews]

theorem State.refreshViews_events (s : State) :
    s.refreshViews.events = { s.events with frame.viewOverflow := s.refreshViews.events.frame.viewOverflow } := rfl

/-! ### The cursor placement (R157) -/

/-- The placement with the cursor's part of the tile written out, side by side. -/
theorem placementOf_eq (tile : Rect) (x y : Half) :
    placementOf tile x y =
      if max x.toInt tile.x0 < min (x.toInt + 32) tile.x1 ∧ max y.toInt tile.y0 < min (y.toInt + 32) tile.y1 then
        some ⟨max x.toInt tile.x0 - tile.x0, max y.toInt tile.y0 - tile.y0, max x.toInt tile.x0 - x.toInt,
          max y.toInt tile.y0 - y.toInt, min (x.toInt + 32) tile.x1 - max x.toInt tile.x0,
          min (y.toInt + 32) tile.y1 - max y.toInt tile.y0⟩
      else none := if_congr decide_eq_true_iff rfl rfl

/-- Along one axis, the cursor's 32 pixels from `a` cut to the tile's side [lo, hi): where the piece starts on the tile, where it starts in
the image, and how long it is. -/
theorem cursorPiece_bounds {a lo hi : Int} (h : max a lo < min (a + 32) hi) :
    (0 ≤ max a lo - lo ∧ max a lo - lo < hi - lo) ∧ (0 ≤ max a lo - a ∧ max a lo - a ≤ 31) ∧
      (1 ≤ min (a + 32) hi - max a lo ∧ min (a + 32) hi - max a lo ≤ 32) := by
  omega

/-- A placement starts on the tile, and its preset and its extent keep it within the 32 × 32 image. -/
theorem placementOf_bounds {tile : Rect} {x y : Half} {p : Placement} (h : placementOf tile x y = some p) :
    0 ≤ p.startX ∧ p.startX < tile.x1 - tile.x0 ∧ 0 ≤ p.startY ∧ p.startY < tile.y1 - tile.y0 ∧
      0 ≤ p.presetX ∧ p.presetX ≤ 31 ∧ 0 ≤ p.presetY ∧ p.presetY ≤ 31 ∧
      1 ≤ p.extentW ∧ p.extentW ≤ 32 ∧ 1 ≤ p.extentH ∧ p.extentH ≤ 32 := by
  rw [placementOf_eq, Option.ite_none_right_eq_some] at h
  obtain ⟨⟨hcolumns, hrows⟩, hp⟩ := h
  obtain rfl := Option.some.inj hp
  obtain ⟨⟨hx0, hx1⟩, ⟨hpx0, hpx1⟩, hw0, hw1⟩ := cursorPiece_bounds hcolumns
  obtain ⟨⟨hy0, hy1⟩, ⟨hpy0, hpy1⟩, hh0, hh1⟩ := cursorPiece_bounds hrows
  exact ⟨hx0, hx1, hy0, hy1, hpx0, hpx1, hpy0, hpy1, hw0, hw1, hh0, hh1⟩

theorem State.refreshCursor_placement (s : State) :
    s.refreshCursor.comp.placement = placementOf (tileRect s.straps s.cfg) s.obj.curX s.obj.curY := rfl

/-! ### The cursor-on-tile flag (R158) -/

theorem State.refreshCursor_cursorOnTile_iff (s : State) :
    s.refreshCursor.comp.cursorOnTile = true ↔ s.obj.look.visible = true ∧ s.refreshCursor.comp.placement ≠ none := by
  simp [State.refreshCursor, recomputeCursor, Option.isSome_iff_ne_none]

/-- CURSOR_TILE_CHANGED is raised by a change of the flag in either direction. -/
theorem State.refreshCursor_cursorTileChanged_iff (s : State) :
    s.refreshCursor.events.frame.cursorTileChanged = true ↔
      s.events.frame.cursorTileChanged = true ∨ s.refreshCursor.comp.cursorOnTile ≠ s.comp.cursorOnTile := by
  simp [State.refreshCursor]

end Sys2Proof.Machine

/-! SUPPORT. The pixel at a point: the topmost view, the colour beneath the cursor, the cursor code there and what it makes of that colour. -/

namespace Sys2Proof.Machine

/-! ### The topmost view and the colour beneath the cursor (R154, R155) -/

theorem Compositor.viewAt_eq_none {k : Compositor} {u v : Int}
    (h : k.hidden = true ∨ ∀ e ∈ k.views, e.clip.holds u v = false) : k.viewAt u v = none := by
  rw [Compositor.viewAt]
  obtain hhidden | hnone := h
  · exact if_pos hhidden
  · split
    · rfl
    · exact List.find?_eq_none.2 fun e he => by simp [hnone e he]

/-- The first view of the list that holds the point is the topmost one. -/
theorem Compositor.viewAt_eq_some {k : Compositor} {u v : Int} {before after : List View} {e : View} (hshown : k.hidden = false)
    (hviews : k.views = before ++ e :: after) (hbefore : ∀ b ∈ before, b.clip.holds u v = false) (he : e.clip.holds u v = true) :
    k.viewAt u v = some e := by
  have hfirst : k.views.find? (fun e => e.clip.holds u v) = some e :=
    List.find?_eq_some_iff_append.2 ⟨he, before, after, hviews, fun b hb => by simp [hbefore b hb]⟩
  rw [Compositor.viewAt, hshown, hfirst]
  rfl

theorem State.colourBeneath_of_no_view {s : State} {u v : Int} (sources : Sources) (h : s.comp.viewAt u v = none) :
    s.colourBeneath sources u v = paletteAt s.obj.palette s.obj.background := by
  rw [State.colourBeneath, h]

/-- A source that presents nothing at the point leaves the background. -/
theorem State.colourBeneath_of_no_pixel {sources : Sources} {s : State} {u v : Int} {e : View} (hview : s.comp.viewAt u v = some e)
    (hpixel : e.sourcePixel sources u v = none) :
    s.colourBeneath sources u v = paletteAt s.obj.palette s.obj.background := by
  simp only [State.colourBeneath, hview, hpixel]

theorem State.colourBeneath_of_pixel {sources : Sources} {s : State} {u v : Int} {e : View} {index : Byte}
    (hview : s.comp.viewAt u v = some e) (hpixel : e.sourcePixel sources u v = some index) :
    s.colourBeneath sources u v = paletteAt s.obj.palette index := by
  simp only [State.colourBeneath, hview, hpixel]

/-! ### The cursor code at a point (R156, R157, Table 13-3) -/

/-- A placement covers a point of the tile: the point is in the cursor's piece. -/
def Placement.Covers (p : Placement) (u v : Int) : Prop :=
  p.startX ≤ u ∧ u < p.startX + p.extentW ∧ p.startY ≤ v ∧ v < p.startY + p.extentH

theorem State.cursorAt_eq_none {s : State} {u v : Int}
    (h : s.obj.look.visible = false ∨ s.comp.placement = none ∨ ∃ p, s.comp.placement = some p ∧ ¬p.Covers u v) :
    s.cursorAt u v = none := by
  rw [State.cursorAt]
  split
  case h_1 => rfl
  case h_2 p hp =>
    refine if_neg fun ⟨hvisible, hcovers⟩ => ?_
    obtain hinvisible | hnowhere | ⟨q, hq, houtside⟩ := h
    · simp [hinvisible] at hvisible
    · simp [hnowhere] at hp
    · obtain rfl : q = p := Option.some.inj (hq.symm.trans hp)
      exact houtside hcovers

theorem State.cursorAt_eq_some {s : State} {u v : Int} {p : Placement} (hvisible : s.obj.look.visible = true)
    (hp : s.comp.placement = some p) (hcovers : p.Covers u v) :
    s.cursorAt u v =
      some (cursorCode s.obj.image (p.presetX + u - p.startX).toNat (p.presetY + v - p.startY).toNat) := by
  rw [State.cursorAt, hp]
  exact if_pos ⟨hvisible, hcovers⟩

/-- Four codes to a byte, the code of the leftmost column in the low bits. -/
theorem cursorCode_toNat (image : Vector CursorBytes 32) {x y : Nat} (hx : x < 32) (hy : y < 32) :
    (cursorCode image x y).toNat = (image[y][x / 4]'(by omega)).toNat / 4 ^ (x % 4) % 4 := by
  have hbyte : x / 4 < 8 := by omega
  have hshift : 2 ^ (2 * (x % 4)) = 4 ^ (x % 4) := pow_mul 2 2 (x % 4)
  simp [cursorCode, hy, hbyte, BitVec.extractLsb'_toNat, Nat.shiftRight_eq_div_pow, hshift]

/-! ### The pixel driven (R156, R159) -/

theorem State.pixelAt_of_blank {s : State} (sources : Sources) (u v : Int) (h : s.comp.showing = false) :
    s.pixelAt sources u v = ⟨0, 0, 0⟩ := by
  simp [State.pixelAt, h]

theorem State.pixelAt_of_no_cursor {s : State} {u v : Int} (sources : Sources) (hshowing : s.comp.showing = true)
    (hcursor : s.cursorAt u v = none) : s.pixelAt sources u v = s.colourBeneath sources u v := by
  simp only [State.pixelAt, hshowing, hcursor, if_true]

theorem State.pixelAt_of_cursor {s : State} {u v : Int} {code : BitVec 2} (sources : Sources) (hshowing : s.comp.showing = true)
    (hcursor : s.cursorAt u v = some code) :
    s.pixelAt sources u v = cursorPixel s.obj.look (s.colourBeneath sources u v) code := by
  simp only [State.pixelAt, hshowing, hcursor, if_true]

/-- What each of the four codes makes of the colour beneath. -/
theorem cursorPixel_codes (look : CursorLook) (beneath : RGB) :
    cursorPixel look beneath 0 = beneath ∧ cursorPixel look beneath 1 = look.colourA ∧ cursorPixel look beneath 2 = look.colourB ∧
      cursorPixel look beneath 3 = ⟨255 - beneath.r, 255 - beneath.g, 255 - beneath.b⟩ := ⟨rfl, rfl, rfl, rfl⟩

end Sys2Proof.Machine

/-! The obligations about tile composition: the recomputes of the compositor, and the pixel at a point. -/

namespace Sys2Proof.Proofs
open Sys2Proof Sys2Proof.Machine

/-- Settles O39: the flags and events are read off the two recomputes; the placement is the intersection of the cursor's square with the
tile, and its bounds hold along each axis by itself. -/
theorem overflowAndCursorPlacement : Obligations.OverflowAndCursorPlacement := by
  unfold Obligations.OverflowAndCursorPlacement
  refine ⟨fun s => ⟨s.refreshViews_overflow_iff, ?raised, s.refreshViews_events⟩,
    fun s => ⟨placementOf_eq _ _ _, fun p hp => ?bounds, s.refreshCursor_cursorOnTile_iff, s.refreshCursor_cursorTileChanged_iff⟩⟩
  case raised =>
    rw [← s.refreshViews_overflow_iff]
    exact s.refreshViews_viewOverflow_iff
  case bounds =>
    rw [s.refreshCursor_placement] at hp
    exact placementOf_bounds hp

/-- Settles O40, stage by stage: the topmost view gives the colour beneath, and the cursor code at the point, where there is one, gives
the pixel. -/
theorem pixelAtPoint : Obligations.PixelAtPoint := by
  unfold Obligations.PixelAtPoint
  refine ⟨?_, fun image x y => cursorCode_toNat image⟩
  intro sources s u v beneath background inside
  refine ⟨?background, ?view, s.pixelAt_of_blank sources u v, ?showing⟩
  case background => exact fun h => State.colourBeneath_of_no_view sources (Compositor.viewAt_eq_none h)
  case view =>
    intro before e after hshown hviews hbefore he
    have hview : s.comp.viewAt u v = some e := Compositor.viewAt_eq_some hshown hviews hbefore he
    exact ⟨State.colourBeneath_of_no_pixel hview, fun index => State.colourBeneath_of_pixel hview⟩
  case showing =>
    intro hshowing
    refine ⟨fun h => State.pixelAt_of_no_cursor sources hshowing (State.cursorAt_eq_none h), ?_⟩
    intro p hvisible hp hinside code
    have hpixel : s.pixelAt sources u v = cursorPixel s.obj.look beneath code :=
      State.pixelAt_of_cursor sources hshowing (State.cursorAt_eq_some hvisible hp hinside)
    obtain ⟨htransparent, hcolourA, hcolourB, hcomplement⟩ := cursorPixel_codes s.obj.look beneath
    rw [hpixel]
    exact ⟨fun h => h ▸ htransparent, fun h => h ▸ hcolourA, fun h => h ▸ hcolourB, fun h => h ▸ hcomplement⟩

end Sys2Proof.Proofs

/-! SUPPORT. The interrupt sources, IRQ_N and PNL_PWR_EN after each reset. -/

namespace Sys2Proof.Machine

/-! ### Panel power (R165, R176) -/

/-- PNL_PWR_EN is low while the power request is OFF, whatever the panel inputs show. -/
theorem pwrEn_of_request_off {v : Service} (h : v.request = false) : pwrEn v = false := by
  simp [pwrEn, conditionHolds, h]

/-! ### The interrupt sources (R183, R185, R186, R189) -/

theorem State.WallReset.faultPending {v : State} (h : v.WallReset) : v.faultPending = false := h.fault

theorem State.WallReset.wallPending {v : State} (h : v.WallReset) : v.wallPending = false := by
  simp [State.wallPending, h.wall, clearWall]

/-- After either reset the receipt FIFO is empty and SUBMIT_REFUSED is clear. -/
theorem State.WallReset.receiptPending {v : State} (h : v.WallReset) : v.receiptPending = false := by
  simp [State.receiptPending, h.sub, resetSubmission]

theorem State.framePending_of_clear {v : State} (h : v.events.frame = clearFrame) : v.framePending = false := by
  simp [State.framePending, h, clearFrame]

theorem State.servicePending_congr {s t : State} (h : t.events.service = s.events.service) :
    t.servicePending = s.servicePending := by
  simp only [State.servicePending, h]

/-- After either reset SERVICE is the only source that can assert IRQ_N: the four others are not pending. -/
theorem State.WallReset.irqAsserted {v : State} (h : v.WallReset) (hframe : v.events.frame = clearFrame) :
    v.irqAsserted = (v.events.enables.service && v.servicePending) := by
  simp [State.irqAsserted, h.faultPending, h.wallPending, h.receiptPending, State.framePending_of_clear hframe]

/-- A pin reset clears the enable of SERVICE too, which releases IRQ_N. -/
theorem State.irqAsserted_afterPinReset (pins : ResetPins) (q : List Instr) : (State.afterPinReset pins q).irqAsserted = false :=
  (State.afterPinReset_wallReset pins q).irqAsserted rfl

/-- RESET_STATION keeps the SERVICE events and the enables, so IRQ_N follows them as they stood. -/
theorem State.irqAsserted_resetStation (s : State) :
    s.resetStation.irqAsserted = (s.events.enables.service && s.servicePending) := by
  have hservice : s.resetStation.servicePending = s.servicePending := State.servicePending_congr rfl
  have henables : s.resetStation.events.enables = s.events.enables := rfl
  rw [(State.resetStation_wallReset s).irqAsserted rfl, hservice, henables]

end Sys2Proof.Machine

/-! The obligation about the service controller and the interrupt unit after the resets. -/

namespace Sys2Proof.Proofs
open Sys2Proof Sys2Proof.Machine

/-- Settles O6: the rows of R176 and R189 are read off the two resets; both leave `State.WallReset`, which leaves SERVICE alone to assert
IRQ_N, and PNL_PWR_EN is low after a pin reset for want of the request. -/
theorem serviceAndInterruptsAfterReset : Obligations.ServiceAndInterruptsAfterReset := by
  unfold Obligations.ServiceAndInterruptsAfterReset
  intro pins s
  have hpin := State.afterPinReset_wallReset pins s.pending
  have hstation := State.resetStation_wallReset (s.portWrite (indexOf .command))
  -- the register access that carries the command touches the port alone, which no source is read from
  have hirq : (s.portWrite (indexOf .command)).resetStation.irqAsserted = (s.events.enables.service && s.servicePending) :=
    State.irqAsserted_resetStation _
  refine ⟨_, _, exec_eq_next _ _, exec_eq_next _ _, ?_⟩
  rw [effect_pinReset, effect_resetStation]
  exact ⟨
    -- the service controller after a pin reset (R176)
    rfl, rfl, rfl, rfl, rfl, pwrEn_of_request_off rfl, rfl, rfl, rfl, rfl, rfl, rfl,
    -- the interrupt unit, the configuration and the counters after a pin reset (R189)
    rfl, hpin.receiptPending, State.irqAsserted_afterPinReset pins s.pending, rfl, rfl, rfl, rfl, rfl,
    -- the service controller after RESET_STATION (R176)
    rfl, rfl,
    -- the interrupt unit, the configuration and the straps after RESET_STATION (R189, R182)
    hstation.fault, hstation.wall, rfl, rfl, rfl, hstation.receiptPending, hirq, rfl, rfl, rfl,
    -- the station is OFFLINE, and the tile is BLANK after both (R61, R162)
    congrArg Controller.state hstation.ctl, rfl, rfl⟩

end Sys2Proof.Proofs

/-! SUPPORT. The bits of a byte of flags, and what the reads of the event sets and of the counters leave. -/

namespace Sys2Proof.Machine

/-! ### The byte of a list of flags -/

theorem flagByte_getLsbD_zero (b : Bool) : (flagByte b).getLsbD 0 = b := by
  cases b <;> rfl

theorem flagByte_getLsbD_succ (b : Bool) (i : Nat) : (flagByte b).getLsbD (i + 1) = false := by
  cases b <;> simp [flagByte, BitVec.getLsbD_one]

/-- Bit `i` of the byte is flag `i` of the list, and a bit beyond the list is 0. -/
theorem bitsByte_getLsbD (flags : List Bool) {i : Nat} (hi : i < 8) : (bitsByte flags).getLsbD i = flags.getD i false := by
  induction flags generalizing i with
  | nil => exact BitVec.getLsbD_zero
  | cons b rest ih =>
    simp only [bitsByte, BitVec.getLsbD_or, BitVec.getLsbD_shiftLeft]
    cases i with
    | zero => rw [flagByte_getLsbD_zero]; rfl
    | succ j =>
      rw [flagByte_getLsbD_succ, Nat.add_sub_cancel, ih (by omega), List.getD_cons_succ]
      simp [hi]

theorem bitsByte_toNat_lt (flags : List Bool) : (bitsByte flags).toNat < 2 ^ flags.length := by
  refine Nat.lt_pow_two_of_testBit _ fun i hi => ?_
  rw [BitVec.testBit_toNat]
  by_cases hbyte : i < 8
  · rw [bitsByte_getLsbD flags hbyte, List.getD_eq_default _ _ hi]
  · exact BitVec.getLsbD_of_ge _ _ (by omega)

/-! ### The places of the flags in each register (Table 13-7) -/

theorem WallEvents.byte_bits (e : WallEvents) :
    e.byte.getLsbD 0 = e.stateChanged ∧ e.byte.getLsbD 1 = e.rosterChanged ∧ e.byte.getLsbD 2 = e.resyncStarted ∧
      e.byte.getLsbD 3 = e.snapshotAbandoned ∧ e.byte.getLsbD 4 = e.commandRefused ∧ e.byte.getLsbD 5 = e.writeIgnored ∧
      e.byte.toNat < 64 := by
  have hbit (i : Fin 8) := bitsByte_getLsbD
    [e.stateChanged, e.rosterChanged, e.resyncStarted, e.snapshotAbandoned, e.commandRefused, e.writeIgnored] i.isLt
  exact ⟨hbit 0, hbit 1, hbit 2, hbit 3, hbit 4, hbit 5, bitsByte_toNat_lt _⟩

theorem ServiceEvents.byte_bits (e : ServiceEvents) :
    e.byte.getLsbD 0 = e.presenceChanged ∧ e.byte.getLsbD 1 = e.latchChanged ∧ e.byte.getLsbD 2 = e.buttonPressed ∧
      e.byte.getLsbD 3 = e.powerFault ∧ e.byte.getLsbD 4 = e.serviceDone ∧ e.byte.getLsbD 5 = e.serviceBusy ∧
      e.byte.toNat < 64 := by
  have hbit (i : Fin 8) := bitsByte_getLsbD
    [e.presenceChanged, e.latchChanged, e.buttonPressed, e.powerFault, e.serviceDone, e.serviceBusy] i.isLt
  exact ⟨hbit 0, hbit 1, hbit 2, hbit 3, hbit 4, hbit 5, bitsByte_toNat_lt _⟩

theorem FrameEvents.byte_bits (e : FrameEvents) :
    e.byte.getLsbD 0 = e.frameStarted ∧ e.byte.getLsbD 1 = e.recordsApplied ∧ e.byte.getLsbD 2 = e.cursorTileChanged ∧
      e.byte.getLsbD 3 = e.viewOverflow ∧ e.byte.toNat < 16 := by
  have hbit (i : Fin 8) := bitsByte_getLsbD [e.frameStarted, e.recordsApplied, e.cursorTileChanged, e.viewOverflow] i.isLt
  exact ⟨hbit 0, hbit 1, hbit 2, hbit 3, bitsByte_toNat_lt _⟩

/-! ### The reads that clear (R184, R188) -/

theorem exec_eventSetRead (set : EventSet) (s : State) :
    exec (.eventSetRead set) s = .next
      { s.portReadWhole (indexOf (.events set)) [s.eventByte set] with events := s.events.clearSet set } := rfl

theorem exec_counterRead_badMessages (s : State) :
    exec (.counterRead .badMessages) s = .next { s.portReadWhole 0x18 [s.bus.badMessages] with bus.badMessages := 0 } := rfl

theorem exec_counterRead_earlyStrobes (s : State) :
    exec (.counterRead .earlyStrobes) s = .next
      { s.portReadWhole 0x19 [s.timer.earlyStrobes] with timer.earlyStrobes := 0 } := rfl

theorem exec_counterRead_outOfWindow (s : State) :
    exec (.counterRead .outOfWindow) s = .next
      { s.portReadWhole 0x1A [s.sched.outOfWindow] with sched.outOfWindow := 0 } := rfl

end Sys2Proof.Machine

/-! The obligation about the reads of the event sets and of the counters. -/

namespace Sys2Proof.Proofs
open Sys2Proof Sys2Proof.Machine

/-- Settles O45, one case for each event set and each counter: the state after a read is that of its `exec_` lemma, and the byte that a
read of an event set returns is described by the set's `byte_bits`. -/
theorem eventAndCounterReads : Obligations.EventAndCounterReads := by
  unfold Obligations.EventAndCounterReads
  refine ⟨fun s => ⟨?fault, ?wall, ?service, ?frame⟩, fun s => ⟨?badMessages, ?earlyStrobes, ?outOfWindow⟩⟩
  case fault => exact exec_eventSetRead .fault s
  case wall => exact ⟨s.events.wall.byte, exec_eventSetRead .wall s, s.events.wall.byte_bits⟩
  case service => exact ⟨s.events.service.byte, exec_eventSetRead .service s, s.events.service.byte_bits⟩
  case frame => exact ⟨s.events.frame.byte, exec_eventSetRead .frame s, s.events.frame.byte_bits⟩
  case badMessages => exact exec_counterRead_badMessages s
  case earlyStrobes => exact exec_counterRead_earlyStrobes s
  case outOfWindow => exact exec_counterRead_outOfWindow s

end Sys2Proof.Proofs

/-! SUPPORT. What a step can do to the shared state and to what is derived from it: every command is a run of the moves of `SharedMove`. The
invariants of the pending list, the credits, the show state and the compositor are each proved once per move. -/

namespace Sys2Proof.Machine

/-- The two states agree on all that the invariants of the pending list, the credits, the show state and the compositor read. -/
structure SameShared (s t : State) : Prop where
  straps : t.straps = s.straps
  cfg : t.cfg = s.cfg
  state : t.ctl.state = s.ctl.state
  outbound : t.sub.outbound.length = s.sub.outbound.length
  receipts : t.sub.receipts = s.sub.receipts
  list : t.sched.list = s.sched.list
  obj : t.obj = s.obj
  show_state : t.shows.state = s.shows.state
  countdown : t.shows.countdown = s.shows.countdown
  comp : t.comp = { s.comp with showing := t.comp.showing }

/-- The sent records have left the outbound queue, those that wait stay (R15, R16). -/
def State.dequeueSent (s : State) : State := { s with sub.outbound := waitingRecords s.sub.outbound }

@[simp] theorem State.dequeueSent_keeps (s : State) :
    s.dequeueSent.straps = s.straps ∧ s.dequeueSent.cfg = s.cfg ∧ s.dequeueSent.ctl = s.ctl ∧ s.dequeueSent.obj = s.obj ∧
      s.dequeueSent.shows = s.shows ∧ s.dequeueSent.comp = s.comp := ⟨rfl, rfl, rfl, rfl, rfl, rfl⟩

/-- The moves that a command is made of. -/
inductive SharedMove (s : State) : State → Prop
  /-- Nothing that the invariants read changes. -/
  | frame {t : State} (h : SameShared s t) : SharedMove s t
  /-- A record of a peer arrives (R86). -/
  | acceptPeer (r : HeldRecord) (h : r.origin ≠ s.own) : SharedMove s (s.acceptRecord r)
  /-- The sent records go from the queue to the schedule (R15). -/
  | settleSent : SharedMove s (s.dequeueSent.acceptRecords (sentRecords s.own s.sub.outbound))
  /-- The sent records go from the queue to UNCERTAIN receipts (R16). -/
  | failSent : SharedMove s
      (s.dequeueSent.addReceipts ((sentRecords s.own s.sub.outbound).map fun r => receiptOf r .uncertain))
  | clearPendingList : SharedMove s s.clearPendingList
  | clearOutbound : SharedMove s s.clearOutbound
  | dropUpTo (bound : Frame) : SharedMove s (s.dropUpTo bound)
  /-- The pending list is emptied without receipts (R41). -/
  | forgetList : SharedMove s { s with sched.list := [] }
  /-- The station state changes, to one that applies records only from such a one or with the tile just taken (R149). -/
  | changeState (new : StationState)
      (h : applies new = true → applies s.ctl.state = true ∨ s.comp.tile = tileRect s.straps s.cfg) :
      SharedMove s (s.changeState new)
  | takeDefaults : SharedMove s s.takeDefaults
  | frameWork (h : applies s.ctl.state = true) : SharedMove s s.frameWork
  /-- An install whose content check passes (R142). -/
  | installImage (h : contentPasses s.geometry s.snap.assembly = true) : SharedMove s s.writeImage.deferredApply
  /-- A submission is accepted (R66). -/
  | enqueue (c : Change) (hqueue : s.sub.outbound.length < Config.outboundCapacity) (hcredit : s.credits ≠ 0) :
      SharedMove s { s with sub.outbound := s.sub.outbound ++ [⟨c, .waiting⟩] }
  /-- The oldest receipt is read (R77). -/
  | takeReceipt : SharedMove s { s with sub.receipts := s.sub.receipts.tail }
  /-- A configuration write is taken, in range (R179). -/
  | configure (c : Configuration) (h : s.ctl.state = .offline) (hrange : s.cfg.inRange = true → c.inRange = true) :
      SharedMove s { s with cfg := c }
  | pinReset (pins : ResetPins) (q : List Instr) : SharedMove s (State.afterPinReset pins q)
  | resetStation : SharedMove s s.resetStation

/-- A run of moves. -/
abbrev SharedMoves : State → State → Prop := Relation.ReflTransGen SharedMove

theorem SharedMove.moves {s t : State} (h : SharedMove s t) : SharedMoves s t := .single h

theorem SameShared.moves {s t : State} (h : SameShared s t) : SharedMoves s t := (SharedMove.frame h).moves

/-- What every move keeps, a run of moves keeps. -/
theorem SharedMoves.keeps {P : State → Prop} (hmove : ∀ {s t : State}, SharedMove s t → P s → P t) {s t : State} (h : SharedMoves s t)
    (hs : P s) : P t := by
  induction h with
  | refl => exact hs
  | tail _ hm ih => exact hmove hm ih

/-! ### The station state (R33, R34, R45, R53) -/

theorem State.changeState_moves (new : StationState) (s : State)
    (h : applies new = true → applies s.ctl.state = true ∨ s.comp.tile = tileRect s.straps s.cfg) :
    SharedMoves s (s.changeState new) := (SharedMove.changeState new h).moves

theorem State.clearWallSide_moves (s : State) : SharedMoves s s.clearWallSide :=
  ((SharedMove.clearPendingList).moves.trans (SharedMove.clearOutbound).moves).trans
    (SameShared.moves ⟨rfl, rfl, rfl, rfl, rfl, rfl, rfl, rfl, rfl, rfl⟩)

theorem State.enterOffline_moves (s : State) : SharedMoves s s.enterOffline :=
  (s.clearWallSide_moves.trans (State.changeState_moves .offline _ nofun)).trans
    (SameShared.moves ⟨rfl, rfl, rfl, rfl, rfl, rfl, rfl, rfl, rfl, rfl⟩)

theorem State.enterFault_moves (reason : FaultReason) (s : State) : SharedMoves s (s.enterFault reason) :=
  (s.clearWallSide_moves.trans (State.changeState_moves .fault _ nofun)).trans
    (SameShared.moves ⟨rfl, rfl, rfl, rfl, rfl, rfl, rfl, rfl, rfl, rfl⟩)

theorem State.resync_moves (cause : ResyncCause) (s : State) : SharedMoves s (s.resync cause) :=
  (State.changeState_moves .joining s nofun).trans (SameShared.moves ⟨rfl, rfl, rfl, rfl, rfl, rfl, rfl, rfl, rfl, rfl⟩)

theorem State.found_moves (s : State) : SharedMoves s s.found :=
  ((SharedMove.forgetList).moves.trans (SharedMove.takeDefaults).moves).trans
    (State.changeState_moves .member _ fun _ => .inr rfl)

theorem State.startLoopback_moves (s : State) : SharedMoves s s.startLoopback :=
  ((SharedMove.takeDefaults).moves.trans (State.changeState_moves .loopback _ fun _ => .inr rfl)).trans
    (SameShared.moves ⟨rfl, rfl, rfl, rfl, rfl, rfl, rfl, rfl, rfl, rfl⟩)

theorem State.beginLeaving_moves (requested : Bool) (s : State) (h : s.ctl.state = .member) :
    SharedMoves s (s.beginLeaving requested) :=
  (State.changeState_moves .leaving s fun _ => .inl (by rw [h]; rfl)).trans
    (SameShared.moves ⟨rfl, rfl, rfl, rfl, rfl, rfl, rfl, rfl, rfl, rfl⟩)

theorem State.startListening_moves (s : State) : SharedMoves s s.startListening :=
  (State.changeState_moves .listening s nofun).trans
    (SameShared.moves ⟨rfl, rfl, rfl, rfl, rfl, rfl, rfl, rfl, rfl, rfl⟩)

end Sys2Proof.Machine

namespace Sys2Proof.Machine

theorem SameShared.refl (s : State) : SameShared s s := ⟨rfl, rfl, rfl, rfl, rfl, rfl, rfl, rfl, rfl, rfl⟩

/-- A change that the invariants do not read may come first. -/
theorem SharedMoves.after {s t u : State} (h : SharedMoves t u) (hsame : SameShared s t) : SharedMoves s u := hsame.moves.trans h

/-! ### The delivery of a message (R7) -/

theorem State.abandon_same (s : State) : SameShared s s.abandon := by constructor <;> simp

theorem State.setEntry_same (k : Position) (e : Entry) (s : State) : SameShared s (s.setEntry k e) := by constructor <;> simp

theorem State.updateEntry_same (k : Position) (e : Entry) (s : State) : SameShared s (s.updateEntry k e) := by
  constructor <;> simp

theorem State.firstMember_same (m : Message) (s : State) : SameShared s (s.firstMember m) := by constructor <;> rfl

theorem State.adopt_same (f : Frame) (s : State) : SameShared s (s.adopt f) := by constructor <;> rfl

theorem State.judgePartZero_same (p : Position) (f : Frame) (i c : Byte) (d : List Byte) (s : State) :
    SameShared s (s.judgePartZero p f i c d) := by constructor <;> simp

theorem State.restartJoining_moves (was : Bool) (m : Message) (s : State) : SharedMoves s (s.restartJoining was m) :=
  (((s.adopt_same m.frame).moves.trans (SharedMove.clearPendingList).moves).trans (State.abandon_same _).moves).trans
    (SameShared.moves ⟨rfl, rfl, rfl, rfl, rfl, rfl, rfl, rfl, rfl, rfl⟩)

theorem State.mergeRule_moves (m : Message) (s : State) : SharedMoves s (s.mergeRule m) := by
  unfold State.mergeRule
  have hupdate := (s.updateEntry_same m.sender (memberEntry m.mark)).moves
  dsimp only
  split
  · split
    · exact hupdate
    · exact hupdate.trans (State.resync_moves ..)
  · split
    · exact ((hupdate.trans (State.adopt_same ..).moves).trans (SharedMove.clearPendingList).moves).trans (State.resync_moves ..)
    · exact (State.setEntry_same ..).moves

theorem State.rosterStep_moves (m : Message) (s : State) : SharedMoves s (s.rosterStep m) := by
  unfold State.rosterStep
  dsimp only
  repeat' split
  all_goals first
    | exact (State.updateEntry_same ..).moves
    | exact (State.setEntry_same ..).moves
    | exact State.mergeRule_moves ..

theorem State.controllerStep_moves (was : Bool) (m : Message) (s : State) : SharedMoves s (s.controllerStep was m) := by
  have hframe : SharedMoves s (((s.adopt m.frame).clearPendingList).resync .frame) :=
    ((s.adopt_same m.frame).moves.trans (SharedMove.clearPendingList).moves).trans (State.resync_moves ..)
  unfold State.controllerStep
  repeat' split
  all_goals first
    | exact .refl
    | exact (State.firstMember_same ..).moves
    | exact hframe
    | exact State.restartJoining_moves ..

theorem State.setExpected_same (k : Position) (n : SeqNum) (s : State) : SameShared s (s.setExpected k n) := by
  constructor <;> simp

theorem State.gapEffect_moves (s : State) : SharedMoves s s.gapEffect := by
  unfold State.gapEffect
  split
  case h_1 => exact State.resync_moves .gap s
  case h_2 => exact s.abandon_same.moves.trans (SameShared.moves ⟨rfl, rfl, rfl, rfl, rfl, rfl, rfl, rfl, rfl, rfl⟩)
  case h_3 => exact SameShared.moves ⟨rfl, rfl, rfl, rfl, rfl, rfl, rfl, rfl, rfl, rfl⟩
  all_goals exact .refl

theorem State.sequenceCheck_moves (k : Position) (mark : SeqNum) (s : State) : SharedMoves s (s.sequenceCheck k mark) := by
  unfold State.sequenceCheck
  split
  · exact .refl
  · exact (State.setExpected_same ..).moves.trans (State.gapEffect_moves _)

theorem State.takeRecords_moves (k : Position) (seq : SeqNum) (records : List (Change × Frame)) (s : State) (hk : k ≠ s.own) :
    SharedMoves s (s.takeRecords k seq records) := by
  induction records generalizing seq s with
  | nil => exact .refl
  | cons r rest ih =>
    let known := s.setExpected k (seq + 1)
    have haccept : SharedMoves known (known.acceptRecord ⟨r.1, r.2, k, seq⟩) := (SharedMove.acceptPeer _ hk).moves
    have hrest := ih (seq + 1) (known.acceptRecord ⟨r.1, r.2, k, seq⟩) (by simpa [known, State.own] using hk)
    exact SharedMoves.after (haccept.trans hrest) (State.setExpected_same ..)

theorem State.scheduleStep_moves (m : Message) (s : State) (hm : m.sender ≠ s.own) : SharedMoves s (s.scheduleStep m) := by
  have hcheck := State.sequenceCheck_moves m.sender m.mark s
  unfold State.scheduleStep
  dsimp only
  split
  · split
    · exact hcheck.trans (State.takeRecords_moves _ _ _ _ (by simpa [State.own] using hm))
    all_goals exact hcheck
  · exact .refl

theorem State.install_moves (s : State) : SharedMoves s s.install := by
  unfold State.install
  split
  · split
    case isTrue h =>
      exact (SharedMove.installImage h).moves.trans (State.changeState_moves .member _ fun _ => .inr (by
        simp [State.deferredApply, State.reportObjects, State.refreshViews, State.refreshCursor, recomputeViews, recomputeCursor,
          State.reportShow]))
    case isFalse => exact s.abandon_same.moves
  · exact State.enterFault_moves ..

theorem State.collectPart_moves (data : List Byte) (s : State) : SharedMoves s (s.collectPart data) := by
  have hwrite : SharedMoves s { s with snap.assembly := writePart s.snap.nextExpected data s.snap.assembly } :=
    SameShared.moves ⟨rfl, rfl, rfl, rfl, rfl, rfl, rfl, rfl, rfl, rfl⟩
  unfold State.collectPart
  dsimp only
  split
  · exact hwrite.trans (SameShared.moves ⟨rfl, rfl, rfl, rfl, rfl, rfl, rfl, rfl, rfl, rfl⟩)
  · exact hwrite.trans (State.install_moves _)

theorem State.takePart_moves (p : Position) (f : Frame) (i c : Byte) (d : List Byte) (s : State) :
    SharedMoves s (s.takePart p f i c d) := by
  unfold State.takePart
  repeat' split
  · exact .refl
  · exact (State.judgePartZero_same ..).moves
  · exact State.collectPart_moves ..
  · exact s.abandon_same.moves.trans (State.judgePartZero_same ..).moves
  · exact .refl

theorem State.snapshotStep_moves (m : Message) (s : State) : SharedMoves s (s.snapshotStep m) := by
  unfold State.snapshotStep
  split
  · exact State.takePart_moves ..
  all_goals exact .refl

theorem State.deliver_moves (m : Message) (s : State) (hm : m.sender ≠ s.own) : SharedMoves s (s.deliver m) :=
  (((s.rosterStep_moves m).trans (State.controllerStep_moves ..)).trans
    (State.scheduleStep_moves m _ (by simpa [State.own] using hm))).trans (State.snapshotStep_moves m _)

/-! ### The wall bus interface (R2, R8, R14 to R18) -/

theorem State.buildOwnMessage_same (s : State) : SameShared s s.buildOwnMessage := by
  refine ⟨rfl, rfl, rfl, ?_, rfl, rfl, rfl, rfl, rfl, rfl⟩
  simp [State.buildOwnMessage]
  omega

theorem State.sendOwnMessage_moves (s : State) : SharedMoves s s.sendOwnMessage := by
  unfold State.sendOwnMessage
  split
  · exact s.buildOwnMessage_same.moves
  · exact SameShared.moves ⟨rfl, rfl, rfl, rfl, rfl, rfl, rfl, rfl, rfl, rfl⟩

theorem State.partSent_same (s : State) : SameShared s s.partSent := by constructor <;> simp

theorem State.countBad_same (s : State) : SameShared s s.countBad := by constructor <;> simp

theorem State.readbackSucceeded_moves (s : State) : SharedMoves s s.readbackSucceeded := by
  let noted : State := { s with bus.readback := .success, bus.runCount := 0 }
  have hnoted : SameShared s noted := ⟨rfl, rfl, rfl, rfl, rfl, rfl, rfl, rfl, rfl, rfl⟩
  have htaken := hnoted.moves.trans (SharedMove.settleSent (s := noted)).moves
  unfold State.readbackSucceeded
  dsimp only
  split
  · exact htaken.trans (State.partSent_same _).moves
  · exact htaken

theorem State.readbackFailed_moves (s : State) : SharedMoves s s.readbackFailed := by
  let noted : State := { s with bus.readback := .failure, bus.runCount := s.bus.runCount + 1 }
  have hnoted : SameShared s noted := ⟨rfl, rfl, rfl, rfl, rfl, rfl, rfl, rfl, rfl, rfl⟩
  have hsettled := hnoted.moves.trans (SharedMove.failSent (s := noted)).moves
  unfold State.readbackFailed
  dsimp only
  split
  · exact hsettled.trans (State.enterFault_moves ..)
  · split
    · exact hsettled.trans (State.resync_moves ..)
    · exact hsettled

theorem State.handOver_moves (s : State) : SharedMoves s s.handOver :=
  (State.readbackSucceeded_moves _).after ⟨rfl, rfl, rfl, rfl, rfl, rfl, rfl, rfl, rfl, rfl⟩

theorem State.openWindow_same (k : Position) (s : State) : SameShared s (s.openWindow k) := by constructor <;> rfl

theorem State.windowClosed_same (k : Position) (s : State) : SameShared s (s.windowClosed k) := by constructor <;> rfl

theorem State.closePeerSlot_same (k : Position) (s : State) : SameShared s (s.closePeerSlot k) := by constructor <;> simp

theorem State.closeOwnSlot_moves (s : State) : SharedMoves s s.closeOwnSlot := by
  unfold State.closeOwnSlot
  split
  · exact (State.readbackFailed_moves _).after ⟨rfl, rfl, rfl, rfl, rfl, rfl, rfl, rfl, rfl, rfl⟩
  · exact State.handOver_moves _
  · split
    · exact s.countBad_same.moves
    · exact .refl

theorem State.closeSlot_moves (k : Position) (s : State) : SharedMoves s (s.closeSlot k) := by
  refine Relation.ReflTransGen.trans ?_ (State.windowClosed_same k _).moves
  split
  · exact s.closeOwnSlot_moves
  · exact (s.closePeerSlot_same k).moves

theorem State.closeOpenSlot_moves (s : State) : SharedMoves s s.closeOpenSlot := by
  unfold State.closeOpenSlot
  split
  · exact .refl
  · exact State.closeSlot_moves ..

theorem State.openOwnWindow_moves (s : State) : SharedMoves s s.openOwnWindow := by
  unfold State.openOwnWindow
  split
  · exact .refl
  · exact s.closeOpenSlot_moves.trans (State.openWindow_same ..).moves

theorem State.setAttempt_same (b : List Byte) (e : Bool) (s : State) : SameShared s (s.setAttempt b e) := by constructor <;> rfl

theorem State.takeValid_moves (m : Message) (s : State) : SharedMoves s (s.takeValid m) := by
  unfold State.takeValid
  split
  · split
    · exact State.enterFault_moves ..
    · exact .refl
  · split
    case isFalse.isTrue hm _ =>
      exact (State.deliver_moves m s hm).trans (SameShared.moves ⟨rfl, rfl, rfl, rfl, rfl, rfl, rfl, rfl, rfl, rfl⟩)
    · exact .refl

theorem State.judgeAttempt_moves (s : State) : SharedMoves s s.judgeAttempt := by
  unfold State.judgeAttempt
  split
  · exact s.countBad_same.moves
  · split
    · exact s.countBad_same.moves
    · exact State.takeValid_moves ..

theorem State.receiveRun_moves (b : List Byte) (e : AttemptEnd) (s : State) : SharedMoves s (s.receiveRun b e) := by
  cases e
  case unfinished => exact (State.setAttempt_same ..).moves
  case invalid => exact (State.setAttempt_same ..).moves.trans (State.countBad_same _).moves
  case complete => exact (State.setAttempt_same ..).moves.trans (State.judgeAttempt_moves _)

theorem State.settleReadback_moves (complete : Bool) (s : State) : SharedMoves s (s.settleReadback complete) := by
  have hdone : SharedMoves s { s with bus.awaiting := .none } :=
    SameShared.moves ⟨rfl, rfl, rfl, rfl, rfl, rfl, rfl, rfl, rfl, rfl⟩
  unfold State.settleReadback
  dsimp only
  split
  · exact hdone.trans (State.readbackSucceeded_moves _)
  · exact hdone.trans (State.readbackFailed_moves _)

theorem State.readbackRun_moves (b : List Byte) (e : AttemptEnd) (s : State) : SharedMoves s (s.readbackRun b e) := by
  cases e
  case unfinished => exact (State.setAttempt_same ..).moves
  case invalid => exact (State.settleReadback_moves false _).after (State.setAttempt_same ..)
  case complete => exact (State.settleReadback_moves true _).after (State.setAttempt_same ..)

/-! ### The frame start (R23) -/

theorem State.endFrame_moves (s : State) : SharedMoves s s.endFrame := by
  unfold State.endFrame
  dsimp only
  split
  · exact s.closeOpenSlot_moves.trans ((State.countBad_same _).moves.after ⟨rfl, rfl, rfl, rfl, rfl, rfl, rfl, rfl, rfl, rfl⟩)
  · exact s.closeOpenSlot_moves

theorem State.startTimer_same (o : Bool) (s : State) : SameShared s (s.startTimer o) := by constructor <;> rfl

theorem State.sendDeferredWord_same (s : State) : SameShared s s.sendDeferredWord := by constructor <;> rfl

theorem State.removeLeavers_same (s : State) : SameShared s s.removeLeavers := by constructor <;> simp

theorem State.ageELost_same (s : State) : SameShared s s.ageELost := by constructor <;> simp

theorem State.startStream_same (s : State) : SameShared s s.startStream := by constructor <;> simp

theorem State.dropHeld_moves (s : State) : SharedMoves s s.dropHeld :=
  (SharedMove.dropUpTo s.dropBoundNow).moves.trans (SameShared.moves ⟨rfl, rfl, rfl, rfl, rfl, rfl, rfl, rfl, rfl, rfl⟩)

theorem State.joiningFrame_moves (s : State) : SharedMoves s s.joiningFrame :=
  ((s.sendDeferredWord_same.moves.trans (State.removeLeavers_same _).moves).trans (State.dropHeld_moves _)).trans
    (State.ageELost_same _).moves

theorem State.endListening_moves (s : State) : SharedMoves s s.endListening := by
  unfold State.endListening
  split
  · exact (State.changeState_moves .joining s nofun).trans
      (SameShared.moves ⟨rfl, rfl, rfl, rfl, rfl, rfl, rfl, rfl, rfl, rfl⟩)
  · exact s.found_moves

theorem State.countListening_moves (s : State) : SharedMoves s s.countListening := by
  have hcount : SharedMoves s { s with ctl.countdown := s.ctl.countdown - 1 } :=
    SameShared.moves ⟨rfl, rfl, rfl, rfl, rfl, rfl, rfl, rfl, rfl, rfl⟩
  unfold State.countListening
  dsimp only
  split
  · exact hcount.trans (State.endListening_moves _)
  · exact hcount

/-- Up to its countdown, the work of LISTENING is the work of JOINING. -/
theorem State.listeningFrame_moves (s : State) : SharedMoves s s.listeningFrame :=
  s.joiningFrame_moves.trans (State.countListening_moves _)

theorem State.memberFrame_moves (s : State) (h : applies s.ctl.state = true) : SharedMoves s s.memberFrame :=
  (s.removeLeavers_same.moves.trans (SharedMove.frameWork (by simpa using h)).moves).trans (State.startStream_same _).moves

theorem State.leaveDone_moves (s : State) : SharedMoves s s.leaveDone := by
  have hoffline := s.sendDeferredWord_same.moves.trans (State.enterOffline_moves _)
  unfold State.leaveDone
  dsimp only
  split
  · exact hoffline.trans (SameShared.moves ⟨rfl, rfl, rfl, rfl, rfl, rfl, rfl, rfl, rfl, rfl⟩)
  · exact hoffline

theorem State.leavingFrame_moves (s : State) (h : applies s.ctl.state = true) : SharedMoves s s.leavingFrame := by
  unfold State.leavingFrame
  split
  · exact s.leaveDone_moves
  · exact s.removeLeavers_same.moves.trans (SharedMove.frameWork (by simpa using h)).moves

theorem State.blockWork_moves (s : State) : SharedMoves s s.blockWork := by
  unfold State.blockWork
  split
  case h_1 => exact s.sendDeferredWord_same.moves
  case h_2 => exact s.sendDeferredWord_same.moves
  case h_3 => exact s.listeningFrame_moves
  case h_4 => exact s.joiningFrame_moves
  case h_5 h => exact s.memberFrame_moves (by rw [h]; rfl)
  case h_6 h => exact s.leavingFrame_moves (by rw [h]; rfl)
  case h_7 h => exact (SharedMove.frameWork (by rw [h]; rfl)).moves

theorem State.evaluateOutput_same (s : State) : SameShared s s.evaluateOutput := by constructor <;> rfl

theorem State.frameStart_moves (o : Bool) (s : State) : SharedMoves s (s.frameStart o) :=
  (((s.endFrame_moves.trans (State.startTimer_same o _).moves).trans (State.blockWork_moves _)).trans
    (State.evaluateOutput_same _).moves).trans (State.openWindow_same 0 _).moves

theorem State.strobeEdge_moves (s : State) : SharedMoves s s.strobeEdge := by
  unfold State.strobeEdge
  repeat' split
  · exact .refl
  · exact s.frameStart_moves false
  · exact SameShared.moves ⟨rfl, rfl, rfl, rfl, rfl, rfl, rfl, rfl, rfl, rfl⟩

/-! ### The commands -/

theorem State.raiseCommandRefused_same (s : State) : SameShared s s.raiseCommandRefused := by constructor <;> rfl

theorem State.joinCommand_moves (s : State) : SharedMoves s s.joinCommand := by
  unfold State.joinCommand
  repeat' split
  · exact s.startListening_moves
  · exact State.enterFault_moves ..
  · exact s.raiseCommandRefused_same.moves

theorem State.loopbackCommand_moves (s : State) : SharedMoves s s.loopbackCommand := by
  unfold State.loopbackCommand
  repeat' split
  · exact s.startLoopback_moves
  · exact State.enterFault_moves ..
  · exact s.raiseCommandRefused_same.moves

theorem State.unloopCommand_moves (s : State) : SharedMoves s s.unloopCommand := by
  unfold State.unloopCommand
  split
  · exact s.enterOffline_moves
  · exact s.raiseCommandRefused_same.moves

theorem State.clearFaultCommand_moves (s : State) : SharedMoves s s.clearFaultCommand := by
  unfold State.clearFaultCommand
  split
  · exact s.enterOffline_moves.trans (SameShared.moves ⟨rfl, rfl, rfl, rfl, rfl, rfl, rfl, rfl, rfl, rfl⟩)
  · exact s.raiseCommandRefused_same.moves

theorem State.leaveCommand_moves (s : State) : SharedMoves s s.leaveCommand := by
  unfold State.leaveCommand
  split
  case h_1 h => exact s.beginLeaving_moves false h
  case h_2 => exact s.enterOffline_moves
  case h_3 => exact s.enterOffline_moves
  all_goals exact s.raiseCommandRefused_same.moves

theorem State.autoLeaveRequest_moves (s : State) : SharedMoves s s.autoLeaveRequest := by
  have hoffline (v : Service) : SharedMoves s { s.enterOffline with svc := v } :=
    s.enterOffline_moves.trans (SameShared.moves ⟨rfl, rfl, rfl, rfl, rfl, rfl, rfl, rfl, rfl, rfl⟩)
  unfold State.autoLeaveRequest
  split
  case h_1 h => exact (s.beginLeaving_moves true h).trans (SameShared.moves ⟨rfl, rfl, rfl, rfl, rfl, rfl, rfl, rfl, rfl, rfl⟩)
  case h_2 => exact hoffline _
  case h_3 => exact hoffline _
  all_goals exact .refl

theorem State.servicePower_same (v : Service) (s : State) : SameShared s (s.servicePower v) := by constructor <;> rfl

theorem State.debounced_moves (p : PanelInput) (s : State) : SharedMoves s (s.debounced p) := by
  have hpressed : SharedMoves s { s with events.service.buttonPressed := true } :=
    SameShared.moves ⟨rfl, rfl, rfl, rfl, rfl, rfl, rfl, rfl, rfl, rfl⟩
  cases p
  case presence => exact SameShared.moves ⟨rfl, rfl, rfl, rfl, rfl, rfl, rfl, rfl, rfl, rfl⟩
  case latch => exact SameShared.moves ⟨rfl, rfl, rfl, rfl, rfl, rfl, rfl, rfl, rfl, rfl⟩
  case button =>
    simp only [State.debounced, State.buttonPress]
    repeat' split
    · exact hpressed.trans (State.autoLeaveRequest_moves _)
    · exact hpressed
    · exact .refl

/-- No submission is refused (R66) while the queue and the credits have room. -/
theorem State.refusalOf_none {c : Option Change} {s : State} (h : s.refusalOf c = .none) :
    submits s.ctl.state = true ∧ (c.any fun c => changeValid s.geometry c) = true ∧
      s.sub.outbound.length < Config.outboundCapacity ∧ s.credits ≠ 0 := by
  unfold State.refusalOf at h
  split at h
  · cases h
  case isFalse hstate =>
    split at h
    · cases h
    case isFalse hvalid =>
      split at h
      · cases h
      case isFalse hqueue =>
        split at h
        · cases h
        case isFalse hcredit => exact ⟨by simpa using hstate, by simpa using hvalid, Nat.lt_of_not_le hqueue, hcredit⟩

theorem State.submit_moves (c : Option Change) (path : RefusalPath) (s : State) : SharedMoves s (s.submit c path) := by
  unfold State.submit
  split
  case h_1 c hrefusal =>
    obtain ⟨-, -, hqueue, hcredit⟩ := State.refusalOf_none hrefusal
    exact (SharedMove.enqueue c hqueue hcredit).moves
  case h_2 => exact SameShared.moves ⟨rfl, rfl, rfl, rfl, rfl, rfl, rfl, rfl, rfl, rfl⟩

theorem State.storeStage_same (k : Nat) (value : Byte) (s : State) : SameShared s (s.storeStage k value) := by
  unfold State.storeStage
  split
  · exact ⟨rfl, rfl, rfl, rfl, rfl, rfl, rfl, rfl, rfl, rfl⟩
  · exact .refl s

theorem State.paletteWrite_moves (value : Byte) (s : State) : SharedMoves s (s.paletteWrite value) := by
  unfold State.paletteWrite
  split
  case h_3 =>
    exact (State.submit_moves ..).after ⟨rfl, rfl, rfl, rfl, rfl, rfl, rfl, rfl, rfl, rfl⟩
  all_goals exact SameShared.moves ⟨rfl, rfl, rfl, rfl, rfl, rfl, rfl, rfl, rfl, rfl⟩

theorem State.cursorWrite_moves (value : Byte) (s : State) : SharedMoves s (s.cursorWrite value) := by
  unfold State.cursorWrite
  dsimp only
  split
  · exact SameShared.moves ⟨rfl, rfl, rfl, rfl, rfl, rfl, rfl, rfl, rfl, rfl⟩
  · exact (State.submit_moves ..).after ⟨rfl, rfl, rfl, rfl, rfl, rfl, rfl, rfl, rfl, rfl⟩

/-- A write that is judged in range keeps the fields of the other register (R179). -/
theorem Configuration.written_inRange {c d : Configuration} {reg : ConfigReg} {bytes : List Byte} (h : c.written reg bytes = some d)
    (hfields : writeInRange d reg = true) (hc : c.inRange = true) : d.inRange = true := by
  have hparts : c.inRange = (writeInRange c .tile && writeInRange c .wall) := rfl
  rw [hparts, Bool.and_eq_true] at hc
  cases reg
  case tile =>
    have hwall : writeInRange d .wall = writeInRange c .wall := by
      simp only [Configuration.written] at h
      split at h
      · cases h; rfl
      · contradiction
      · cases h
    exact Bool.and_eq_true_iff.2 ⟨hfields, hwall.trans hc.2⟩
  case wall =>
    have htile : writeInRange d .tile = writeInRange c .tile := by
      simp only [Configuration.written] at h
      split at h
      · contradiction
      · cases h; rfl
      · cases h
    exact Bool.and_eq_true_iff.2 ⟨htile.trans hc.1, hfields⟩

theorem State.takeConfig_moves {reg : ConfigReg} {bytes : List Byte} {written : Option Configuration} (s : State)
    (h : s.cfg.written reg bytes = written) : SharedMoves s (s.takeConfig reg written) := by
  unfold State.takeConfig
  split
  · exact .refl
  case h_2 c =>
    split
    case isTrue htaken => exact (SharedMove.configure c htaken.1 (Configuration.written_inRange h htaken.2)).moves
    case isFalse => exact SameShared.moves ⟨rfl, rfl, rfl, rfl, rfl, rfl, rfl, rfl, rfl, rfl⟩

theorem State.portWrite_same (i : BitVec 7) (s : State) : SameShared s (s.portWrite i) := by constructor <;> rfl

end Sys2Proof.Machine

namespace Sys2Proof.Machine

theorem State.advance_same (d : Ticks) (s : State) : SameShared s (s.advance d) := by constructor <;> rfl

theorem State.endPulse_same (s : State) : SameShared s s.endPulse := by constructor <;> rfl

theorem State.execPowerTimerExpiry_same (s : State) : SameShared s (effect .powerTimerExpiry s) := by
  simp only [effect, exec, execPowerTimerExpiry]
  split
  · exact s.servicePower_same _
  · exact s.servicePower_same _
  all_goals exact .refl s

/-- What a register access leads to comes after the count of its data byte. -/
theorem SharedMoves.afterPort {s t : State} {i : BitVec 7} (h : SharedMoves (s.portWrite i) t) : SharedMoves s t :=
  h.after (s.portWrite_same i)

/-- What a guarded command does, it does or does not. -/
theorem SharedMoves.guarded {s t : State} {c : Prop} [Decidable c] (h : SharedMoves s t) : SharedMoves s (if c then t else s) := by
  split
  · exact h
  · exact .refl

/-- Every command is a run of moves. -/
theorem effect_moves (c : Instr) (s : State) : SharedMoves s (effect c s) := by
  cases c
  case pinReset pins => exact (SharedMove.pinReset pins s.pending).moves
  case resetStation => exact SharedMoves.afterPort (SharedMove.resetStation).moves
  case ownFrameTimerExpiry => exact s.frameStart_moves true
  case wbStrobeEdge reading =>
    exact ((State.strobeEdge_moves _).after (State.endPulse_same _)).after (s.advance_same (reading - s.timer.elapsed))
  case slotOpen k =>
    simp only [effect, exec, execSlotOpen]
    split
    · exact .refl
    · exact s.closeOpenSlot_moves.trans (State.openWindow_same ..).moves
  case ownSlotOpen =>
    simp only [effect, exec, execOwnSlotOpen]
    split
    · exact .refl
    · exact s.openOwnWindow_moves.trans (State.sendOwnMessage_moves _)
  case slotClose k => exact (s.closeSlot_moves k).guarded
  case messageReceived bytes stopBit => exact (s.receiveRun_moves _ _).guarded
  case readback bytes stopBit => exact (s.readbackRun_moves _ _).guarded
  case loopedHandover => exact s.handOver_moves.guarded
  case join => exact (State.joinCommand_moves _).afterPort
  case leave => exact (State.leaveCommand_moves _).afterPort
  case loopback => exact (State.loopbackCommand_moves _).afterPort
  case unloop => exact (State.unloopCommand_moves _).afterPort
  case clearFault => exact (State.clearFaultCommand_moves _).afterPort
  case submit => exact (State.submit_moves ..).afterPort
  case stageWrite reg n value =>
    exact (State.storeStage_same ..).moves.after (t := s.portWriteAt (indexOf (.stage reg)) (n + 1))
      ⟨rfl, rfl, rfl, rfl, rfl, rfl, rfl, rfl, rfl, rfl⟩
  case palDataWrite value => exact (State.paletteWrite_moves value _).afterPort
  case cursorDataWrite value => exact (State.cursorWrite_moves value _).afterPort
  case receiptRead =>
    exact (SharedMove.takeReceipt).moves.after (t := s.portReadWhole (indexOf .receipt) s.receiptRegister)
      ⟨rfl, rfl, rfl, rfl, rfl, rfl, rfl, rfl, rfl, rfl⟩
  case counterRead counter => cases counter <;> exact SameShared.moves ⟨rfl, rfl, rfl, rfl, rfl, rfl, rfl, rfl, rfl, rfl⟩
  case configWrite reg bytes =>
    exact (State.takeConfig_moves (bytes := bytes) _ rfl).after (t := s.portWriteAt (indexOf (.config reg)) bytes.length)
      ⟨rfl, rfl, rfl, rfl, rfl, rfl, rfl, rfl, rfl, rfl⟩
  case powerOn led =>
    simp only [effect, exec, execPowerOn]
    split <;> exact SameShared.moves ⟨rfl, rfl, rfl, rfl, rfl, rfl, rfl, rfl, rfl, rfl⟩
  case powerOff led =>
    simp only [effect, exec, execPowerOff]
    split <;> exact SameShared.moves ⟨rfl, rfl, rfl, rfl, rfl, rfl, rfl, rfl, rfl, rfl⟩
  case serviceLed led =>
    simp only [effect, exec, execServiceLed]
    (repeat' split) <;> exact SameShared.moves ⟨rfl, rfl, rfl, rfl, rfl, rfl, rfl, rfl, rfl, rfl⟩
  case debounceExpiry input =>
    refine SharedMoves.guarded ((State.debounced_moves input _).after ?_)
    exact ⟨rfl, rfl, rfl, rfl, rfl, rfl, rfl, rfl, rfl, rfl⟩
  case powerTimerExpiry => exact s.execPowerTimerExpiry_same.moves
  case ledBlinkToggle => exact SharedMoves.guarded (SameShared.moves ⟨rfl, rfl, rfl, rfl, rfl, rfl, rfl, rfl, rfl, rfl⟩)
  all_goals exact SameShared.moves ⟨rfl, rfl, rfl, rfl, rfl, rfl, rfl, rfl, rfl, rfl⟩

/-- An invariant that no move breaks, and that does not speak of the queue, is one of every step. -/
theorem step_keeps_of_moves {P : State → Prop} (hqueue : ∀ s q, P s → P { s with pending := q })
    (hmove : ∀ {s t : State}, SharedMove s t → P s → P t) (s t : State) (h : step s = .next t) (hs : P s) : P t :=
  step_keeps hqueue (fun s => hmove (.frame (s.advance_same 1))) (fun c s => (effect_moves c s).keeps hmove) s t h hs

end Sys2Proof.Machine

/-! SUPPORT. The pending list and the credits under every move: the records of the list only leave it, but for a record that finds room. -/

namespace Sys2Proof.Machine

/-! ### The pending list (R81) -/

/-- The law of the pending list, of the list alone (R81). -/
def ListLaw (l : List HeldRecord) : Prop :=
  l.length ≤ Config.pendingCapacity ∧ l.Pairwise fun a b => ¬(a.origin = b.origin ∧ a.seq = b.seq)

theorem ListLaw.of_sublist {l l' : List HeldRecord} (h : ListLaw l) (hsub : l'.Sublist l) : ListLaw l' :=
  ⟨hsub.length_le.trans h.1, h.2.sublist hsub⟩

/-- A record with room keeps the law. -/
theorem ListLaw.insertHeld {l : List HeldRecord} (h : ListLaw l) {r : HeldRecord} (hroom : hasRoom r l = true) :
    ListLaw (Machine.insertHeld r l) := by
  obtain ⟨hlength, hnew⟩ := (hasRoom_iff r l).1 hroom
  refine ⟨by rw [insertHeld_length]; exact hlength, ?_⟩
  rw [(insertHeld_perm r l).pairwise_iff fun hab hba => hab ⟨hba.1.symm, hba.2.symm⟩]
  exact List.pairwise_cons.2 ⟨fun x hx hsame => hnew x hx ⟨hsame.1.symm, hsame.2.symm⟩, h.2⟩

/-- An arriving record leaves the list as it was, or finds room in it (R86, R87). -/
theorem State.acceptRecord_list (r : HeldRecord) (s : State) :
    (s.acceptRecord r).sched.list =
      if inWindow s.timer.frame s.cfg.lead r.eff = true ∧ hasRoom r s.sched.list = true then insertHeld r s.sched.list
      else s.sched.list := by
  unfold State.acceptRecord
  cases inWindow s.timer.frame s.cfg.lead r.eff <;> cases hasRoom r s.sched.list <;> simp

theorem State.acceptRecord_listLaw {r : HeldRecord} {s : State} (h : ListLaw s.sched.list) :
    ListLaw (s.acceptRecord r).sched.list := by
  rw [State.acceptRecord_list]
  split
  case isTrue hroom => exact h.insertHeld hroom.2
  case isFalse => exact h

theorem State.acceptRecords_listLaw {records : List HeldRecord} {s : State} (h : ListLaw s.sched.list) :
    ListLaw (s.acceptRecords records).sched.list := by
  induction records generalizing s with
  | nil => exact h
  | cons r rest ih => exact ih (State.acceptRecord_listLaw h)

@[simp] theorem State.frameWork_list (s : State) : s.frameWork.sched.list = notDueAt s.timer.frame s.sched.list := by
  unfold State.frameWork
  dsimp only
  split <;> simp

@[simp] theorem State.deferredApply_list (s : State) :
    s.deferredApply.sched.list =
      (s.sched.list.filter fun r => frameAfter r.eff s.snap.collFrame).filter fun r => frameAfter r.eff s.timer.frame := by
  unfold State.deferredApply
  simp [State.dropUpTo]

theorem SharedMove.keeps_list {s t : State} (h : SharedMove s t) (hs : ListLaw s.sched.list) : ListLaw t.sched.list := by
  cases h
  case frame h => rw [h.list]; exact hs
  case acceptPeer r _ => exact State.acceptRecord_listLaw hs
  case settleSent => exact State.acceptRecords_listLaw hs
  case dropUpTo bound => exact hs.of_sublist List.filter_sublist
  case frameWork => rw [State.frameWork_list]; exact hs.of_sublist List.filter_sublist
  case installImage =>
    rw [State.deferredApply_list]
    exact hs.of_sublist (List.filter_sublist.trans List.filter_sublist)
  case takeDefaults => simpa using hs
  case clearPendingList => exact ⟨Nat.zero_le _, .nil⟩
  case forgetList => exact ⟨Nat.zero_le _, .nil⟩
  case pinReset => exact ⟨Nat.zero_le _, .nil⟩
  case resetStation => exact ⟨Nat.zero_le _, .nil⟩
  all_goals exact hs

/-! ### The credits (R78) -/

/-- The credit law follows where neither the queue nor the credits in use grow. -/
theorem CreditInv.of_le {s t : State} (h : CreditInv s) (hqueue : t.sub.outbound.length ≤ s.sub.outbound.length)
    (hused : t.creditsUsed ≤ s.creditsUsed) : CreditInv t :=
  ⟨hqueue.trans h.1, hused.trans h.2⟩

theorem SameShared.creditsUsed {s t : State} (h : SameShared s t) : t.creditsUsed = s.creditsUsed := by
  simp [State.creditsUsed, State.inFlight, State.own, h.straps, h.outbound, h.receipts, h.list]

/-- A discarded record takes a receipt when it is the own station's (R87). -/
theorem State.discardRecord_sub (r : HeldRecord) (s : State) :
    (s.discardRecord r).sub =
      if r.origin = s.own then { s.sub with receipts := s.sub.receipts ++ [receiptOf r .discardedFull] } else s.sub := by
  unfold State.discardRecord
  cases s.ctl.state <;> by_cases h : r.origin = s.own <;> simp [h, State.addReceipts]

@[simp] theorem State.acceptRecord_outbound (r : HeldRecord) (s : State) :
    (s.acceptRecord r).sub.outbound = s.sub.outbound := by
  unfold State.acceptRecord
  repeat' split
  · rfl
  · rw [State.discardRecord_sub]
    split <;> rfl
  · rfl

/-- An arriving record takes at most one credit, and none when it is a peer's: it is in the list or has its receipt (R74, R87). -/
theorem State.acceptRecord_creditsUsed (r : HeldRecord) (s : State) :
    (s.acceptRecord r).creditsUsed ≤ s.creditsUsed + if r.origin = s.own then 1 else 0 := by
  unfold State.acceptRecord
  split
  · split
    · have hown := insertHeld_own_length s.own r s.sched.list
      simp only [State.creditsUsed, State.inFlight, State.own] at hown ⊢
      omega
    · simp only [State.creditsUsed, State.inFlight, State.own, State.discardRecord_keeps, State.discardRecord_sub]
      by_cases hown : r.origin = s.straps.pos <;> simp [hown]
      omega
  · exact Nat.le_add_right ..

/-- The records arrive with at most one credit each. -/
theorem State.acceptRecords_credits (records : List HeldRecord) (s : State) :
    (s.acceptRecords records).sub.outbound = s.sub.outbound ∧
      (s.acceptRecords records).creditsUsed ≤ s.creditsUsed + records.length := by
  induction records generalizing s with
  | nil => exact ⟨rfl, Nat.le_refl _⟩
  | cons r rest ih =>
    obtain ⟨hqueue, hused⟩ := ih (s.acceptRecord r)
    have hone := State.acceptRecord_creditsUsed r s
    refine ⟨hqueue.trans (State.acceptRecord_outbound r s), hused.trans ?_⟩
    rw [List.length_cons]
    split at hone <;> omega

/-- Each sent record frees the credit that it held in the queue. -/
theorem State.dequeueSent_credits (s : State) :
    s.dequeueSent.sub.outbound.length ≤ s.sub.outbound.length ∧
      s.dequeueSent.creditsUsed + (sentRecords s.own s.sub.outbound).length = s.creditsUsed := by
  have hall := sent_waiting_length s.own s.sub.outbound
  have hused : s.dequeueSent.creditsUsed = (waitingRecords s.sub.outbound).length + s.inFlight + s.sub.receipts.length := rfl
  rw [hused, State.creditsUsed]
  exact ⟨List.length_filter_le .., by omega⟩

theorem State.frameWork_sub (s : State) :
    s.frameWork.sub = { s.sub with receipts := s.sub.receipts ++ (applyRunAt s).receipts } := by
  unfold State.frameWork
  dsimp only
  split <;> simp

/-- An apply gives one receipt for each own record that leaves the list (R91). -/
theorem applyRunAt_receipts_length (s : State) :
    (applyRunAt s).receipts.length = ((dueAt s.timer.frame s.sched.list).filter fun r => r.origin == s.own).length := by
  have h := foldl_receipts_length s.own _ (dispatchAtFrame_receipts_length s.geometry s.own) (dueAt s.timer.frame s.sched.list)
    (ApplyRun.begin s.obj { s.shows with transition := .null })
  exact h.trans (Nat.zero_add _)

theorem State.frameWork_creditsUsed (s : State) : s.frameWork.creditsUsed = s.creditsUsed := by
  have hsplit := own_filter_split s.own (fun r => r.eff == s.timer.frame) s.sched.list
  have hreceipts := applyRunAt_receipts_length s
  simp only [dueAt, State.own] at hreceipts hsplit
  simp only [State.creditsUsed, State.inFlight, State.own, State.frameWork_sub, State.frameWork_list, State.frameWork_keeps,
    List.length_append, notDueAt, bne]
  omega

/-- Dropped records give an UNCERTAIN receipt for each own one (R94). -/
theorem State.dropUpTo_creditsUsed (bound : Frame) (s : State) : (s.dropUpTo bound).creditsUsed = s.creditsUsed := by
  have hsplit := own_filter_split s.own (fun r => frameAfter r.eff bound) s.sched.list
  simp only [State.own] at hsplit
  simp only [State.creditsUsed, State.inFlight, State.own, State.dropUpTo, List.length_append, uncertainReceipts_length]
  omega

theorem State.clearPendingList_creditsUsed (s : State) : s.clearPendingList.creditsUsed = s.creditsUsed := by
  simp [State.creditsUsed, State.inFlight, State.clearPendingList, State.own]
  omega

theorem State.clearOutbound_creditsUsed (s : State) : s.clearOutbound.creditsUsed = s.creditsUsed := by
  simp [State.creditsUsed, State.inFlight, State.clearOutbound, State.own]
  omega

/-- The deferred apply of an install gives one receipt for each own record that it takes (R96). -/
theorem State.deferredApply_credits (s : State) :
    s.deferredApply.sub.outbound = s.sub.outbound ∧ s.deferredApply.creditsUsed = s.creditsUsed := by
  have hdrop := s.dropUpTo_creditsUsed s.snap.collFrame
  let d := s.dropUpTo s.snap.collFrame
  have hsplit := own_filter_split d.own (fun r => !frameAfter r.eff d.timer.frame) d.sched.list
  have hreceipts := foldl_receipts_length d.own _ (dispatchAtInstall_receipts_length d.geometry d.own)
    (d.sched.list.filter fun r => !frameAfter r.eff d.timer.frame) (ApplyRun.begin d.obj d.shows)
  have hbegin : (ApplyRun.begin d.obj d.shows).receipts.length = 0 := rfl
  unfold State.deferredApply
  refine ⟨by simp [State.dropUpTo], ?_⟩
  rw [← hdrop]
  simp only [State.creditsUsed, State.inFlight, State.own, State.reportShow_keeps, State.reportObjects_keeps,
    List.length_append, Bool.not_not] at hsplit hreceipts ⊢
  simp only [d] at hsplit hreceipts hbegin
  omega

theorem SharedMove.keeps_credits {s t : State} (h : SharedMove s t) (hs : CreditInv s) : CreditInv t := by
  cases h
  case frame h => exact hs.of_le h.outbound.le h.creditsUsed.le
  case acceptPeer r hr =>
    exact hs.of_le (by rw [State.acceptRecord_outbound]) (by simpa [hr] using State.acceptRecord_creditsUsed r s)
  case settleSent =>
    obtain ⟨hqueue, hfreed⟩ := s.dequeueSent_credits
    obtain ⟨hsame, hused⟩ := s.dequeueSent.acceptRecords_credits (sentRecords s.own s.sub.outbound)
    exact hs.of_le (by rw [hsame]; exact hqueue) (hused.trans hfreed.le)
  case failSent =>
    obtain ⟨hqueue, hfreed⟩ := s.dequeueSent_credits
    refine hs.of_le hqueue (Nat.le_of_eq ?_)
    rw [← hfreed]
    simp [State.creditsUsed, State.addReceipts, State.inFlight, State.own]
    omega
  case clearPendingList => exact hs.of_le (Nat.le_refl _) s.clearPendingList_creditsUsed.le
  case clearOutbound => exact hs.of_le (Nat.zero_le _) s.clearOutbound_creditsUsed.le
  case dropUpTo bound => exact hs.of_le (Nat.le_refl _) (s.dropUpTo_creditsUsed bound).le
  case forgetList =>
    refine hs.of_le (Nat.le_refl _) ?_
    simp [State.creditsUsed, State.inFlight]
  case takeDefaults => simpa [CreditInv, State.inFlight, State.own] using hs
  case frameWork => exact hs.of_le (by rw [State.frameWork_sub]) s.frameWork_creditsUsed.le
  case installImage =>
    obtain ⟨hqueue, hused⟩ := s.writeImage.deferredApply_credits
    exact hs.of_le (by rw [hqueue]; simp) (by rw [hused]; simp [State.creditsUsed, State.inFlight, State.own])
  case enqueue c hqueue hcredit =>
    have hfree : s.creditsUsed < Config.creditTotal := Nat.lt_of_sub_pos (Nat.pos_of_ne_zero hcredit)
    refine ⟨by simpa using hqueue, ?_⟩
    simp only [State.creditsUsed, State.inFlight, State.own, List.length_append, List.length_singleton] at hfree ⊢
    omega
  case takeReceipt =>
    refine hs.of_le (Nat.le_refl _) ?_
    simp [State.creditsUsed, State.inFlight, State.own]
  case pinReset => exact ⟨Nat.zero_le _, Nat.zero_le _⟩
  case resetStation => exact ⟨Nat.zero_le _, Nat.zero_le _⟩
  all_goals exact hs

end Sys2Proof.Machine

namespace Sys2Proof.Proofs
open Sys2Proof Sys2Proof.Machine

/-- Settles O56: no move breaks the law of the list, and every step is a run of moves. -/
theorem stepKeepsPendingListBounded : Obligations.StepKeepsPendingListBounded :=
  fun s t hs hstep => step_keeps_of_moves (P := ListInv) (fun _ _ h => h) SharedMove.keeps_list s t hstep hs

/-- Settles O57: a record keeps one credit from the queue to its receipt, whichever way it takes. -/
theorem stepKeepsCreditLaw : Obligations.StepKeepsCreditLaw :=
  fun s t hs hstep => step_keeps_of_moves (P := CreditInv) (fun _ _ h => h) SharedMove.keeps_credits s t hstep hs

end Sys2Proof.Proofs

/-! SUPPORT. The show state, and the compositor against the live objects, under every move. -/

namespace Sys2Proof.Machine

/-! ### The show state (R115 to R118, R125, R144) -/

/-- The show state and its countdown fit together, the law of `ShowInv` of the show controller alone. -/
def ShowControl.Legal (k : ShowControl) : Prop :=
  match k.state with
  | .paced n => 2 ≤ n ∧ n ≤ 8 ∧ 1 ≤ k.countdown ∧ k.countdown ≤ n
  | .stopped _ | .running | .held => k.countdown = 0

theorem showInv_iff (s : State) : ShowInv s ↔ s.shows.Legal := Iff.rfl

theorem ShowControl.Legal.congr {k k' : ShowControl} (h : k.Legal) (hstate : k'.state = k.state) (hcount : k'.countdown = k.countdown) :
    k'.Legal := by
  unfold ShowControl.Legal at *
  rw [hstate, hcount]
  exact h

/-- Only PACE leads to PACED, with its argument for the factor (Table 8-1). -/
theorem showTable_paced {c a : Byte} {st : ShowState} {n : Nat} {w : SourceWord} (h : Machine.showTable c a st = some (.paced n, w)) :
    c.toNat = 4 ∧ n = a.toNat := by
  unfold Machine.showTable at h
  repeat' split at h
  all_goals simp_all

theorem judgeShow_legal {c a : Byte} {k : ShowControl} (h : k.Legal) : (judgeShow c a k).1.Legal := by
  unfold judgeShow
  split
  case isFalse => exact h
  case isTrue hfields =>
    split
    · exact h
    case h_2 st word hcell =>
      cases st with
      | paced n =>
        obtain ⟨hc, rfl⟩ := showTable_paced hcell
        have hfactor : 2 ≤ a.toNat ∧ a.toNat ≤ 8 := by simpa [showFieldsValid, hc] using hfields
        exact ⟨hfactor.1, hfactor.2, Nat.le_of_succ_le hfactor.1, Nat.le_refl _⟩
      | _ => exact rfl

theorem pacingStep_legal {k : ShowControl} (h : k.Legal) : (pacingStep k).Legal := by
  unfold pacingStep
  split
  case h_1 n hstate =>
    have hpaced : 2 ≤ n ∧ n ≤ 8 ∧ 1 ≤ k.countdown ∧ k.countdown ≤ n := by simpa [ShowControl.Legal, hstate] using h
    split
    all_goals
      simp only [ShowControl.Legal, hstate]
      omega
  all_goals exact h

theorem silentSteps_legal (n : Nat) {k : ShowControl} (h : k.Legal) : (silentSteps n k).Legal := by
  induction n generalizing k with
  | zero => exact h
  | succ n ih => exact ih ((pacingStep_legal h).congr rfl rfl)

theorem judgeInstalled_legal (c a : Byte) (g : Frame) {k : ShowControl} (h : k.Legal) : (judgeInstalled c a g k).1.Legal := by
  have hjudged := judgeShow_legal (c := c) (a := a) (silentSteps_legal (framesBefore k g) h)
  unfold judgeInstalled
  dsimp only
  split
  · exact hjudged.congr rfl rfl
  · exact (silentSteps_legal 1 hjudged).congr rfl rfl

theorem endInstall_legal (g : Frame) {k : ShowControl} (h : k.Legal) : (endInstall g k).Legal :=
  (silentSteps_legal (framesUpTo k g) h).congr rfl rfl

/-- The content check lets just the legal show states through (R144). -/
theorem imageShow_legal {im : Image} (h : showPasses im = true) (k : ShowControl) :
    ShowControl.Legal { k with state := imageShow im, countdown := (imageByte im 12).toNat } := by
  unfold showPasses at h
  simp only [ShowControl.Legal, imageShow]
  split at h
  case h_1 hcode => simp_all
  case h_2 hcode => simp_all
  case h_3 hcode => simp_all
  case h_4 hcode => simpa [hcode, and_assoc] using h
  case h_5 => cases h

@[simp] theorem ApplyRun.settle_keeps (own : Position) (r : HeldRecord) (o : ReceiptOutcome) (run : ApplyRun) :
    (run.settle own r o).obj = run.obj ∧ (run.settle own r o).shows = run.shows ∧
      (run.settle own r o).showFrame = run.showFrame ∧ (run.settle own r o).showApplied = run.showApplied ∧
      (run.settle own r o).windows = run.windows ∧ (run.settle own r o).cursor = run.cursor := by
  unfold ApplyRun.settle
  split <;> simp

theorem dispatchAtFrame_legal (g : Geometry) (own : Position) (run : ApplyRun) (r : HeldRecord) (h : run.shows.Legal) :
    (dispatchAtFrame g own run r).shows.Legal := by
  unfold dispatchAtFrame
  split
  · split
    · simpa using h
    · simpa using judgeShow_legal h
  · simpa [ApplyRun.store] using h

theorem dispatchAtInstall_legal (g : Geometry) (own : Position) (run : ApplyRun) (r : HeldRecord) (h : run.shows.Legal) :
    (dispatchAtInstall g own run r).shows.Legal := by
  unfold dispatchAtInstall
  split
  · split
    · simpa using h
    · simpa using judgeInstalled_legal _ _ _ h
  · simpa [ApplyRun.store] using h

theorem showWork_legal {run : ApplyRun} (h : run.shows.Legal) : (showWork run).Legal := by
  unfold showWork
  split
  · exact h
  · exact pacingStep_legal h

@[simp] theorem State.frameWork_shows (s : State) : s.frameWork.shows = sendWord (showWork (applyRunAt s)) := by
  unfold State.frameWork
  dsimp only
  split <;> simp

/-- The apply and the walk of an install, on the state that step 3 of R142 has left. -/
def State.installRun (s : State) : ApplyRun :=
  let d := s.dropUpTo s.snap.collFrame
  (d.sched.list.filter fun r => !frameAfter r.eff d.timer.frame).foldl (dispatchAtInstall d.geometry d.own)
    (ApplyRun.begin d.obj d.shows)

/-- The state in which an install makes its reports. -/
def State.installed (s : State) : State :=
  let d := s.dropUpTo s.snap.collFrame
  { d with
    obj := s.installRun.obj
    shows := endInstall d.timer.frame s.installRun.shows
    sched.list := d.sched.list.filter fun r => frameAfter r.eff d.timer.frame
    sub.receipts := d.sub.receipts ++ s.installRun.receipts }

theorem State.deferredApply_eq (s : State) : s.deferredApply = (s.installed.reportObjects true true).reportShow := rfl

theorem applyRunAt_legal {s : State} (h : s.shows.Legal) : (applyRunAt s).shows.Legal :=
  List.foldlRecOn _ _ (motive := fun run : ApplyRun => run.shows.Legal) (h.congr rfl rfl)
    fun run hrun r _ => dispatchAtFrame_legal _ _ run r hrun

theorem State.installRun_legal {s : State} (h : s.shows.Legal) : s.installRun.shows.Legal :=
  List.foldlRecOn _ _ (motive := fun run : ApplyRun => run.shows.Legal) (h.congr rfl rfl)
    fun run hrun r _ => dispatchAtInstall_legal _ _ run r hrun

theorem State.writeImage_legal {s : State} (h : contentPasses s.geometry s.snap.assembly = true) : s.writeImage.shows.Legal := by
  have hshow : showPasses s.snap.assembly = true := by
    simp only [contentPasses, Bool.and_eq_true] at h
    exact h.2
  exact (imageShow_legal hshow s.shows).congr rfl rfl

@[simp] theorem State.takeDefaults_shows (s : State) :
    s.takeDefaults.shows = { s.shows with state := .stopped .blank, countdown := 0, deferred := some .stopBlank } := by
  simp [State.takeDefaults]

theorem SharedMove.keeps_show {s t : State} (h : SharedMove s t) (hs : ShowInv s) : ShowInv t := by
  rw [showInv_iff] at hs ⊢
  cases h
  case frame h => exact hs.congr h.show_state h.countdown
  case acceptPeer => simpa using hs
  case settleSent => simpa using hs
  case takeDefaults => rw [State.takeDefaults_shows]; exact rfl
  case frameWork =>
    rw [State.frameWork_shows]
    exact (showWork_legal (applyRunAt_legal hs)).congr rfl rfl
  case installImage hcontent =>
    rw [State.deferredApply_eq]
    simp only [State.reportShow_keeps, State.reportObjects_keeps]
    exact endInstall_legal _ (State.installRun_legal (State.writeImage_legal hcontent))
  case pinReset => exact rfl
  case resetStation => exact rfl
  all_goals exact hs

/-! ### The view list and the cursor placement (R150, R152, R157, R158) -/

/-- The view list, its count and its overflow flag are what the windows give on the tile in force (R150, R152). -/
structure Compositor.ViewsTrue (k : Compositor) (windows : Vector (Option Window) 8) : Prop where
  views : k.views = deriveViews k.tile windows
  qualifying : k.qualifying = (Machine.qualifying k.tile windows).length
  overflow : k.overflow = decide (Config.viewCapacity < k.qualifying)

/-- The cursor placement and the cursor-on-tile flag are what the cursor gives on the tile in force (R157, R158). -/
structure Compositor.CursorTrue (k : Compositor) (o : Objects) : Prop where
  placement : k.placement = placementOf k.tile o.curX o.curY
  onTile : k.cursorOnTile = (o.look.visible && k.placement.isSome)

theorem composeInv_iff (s : State) :
    ComposeInv s ↔ s.comp.ViewsTrue s.obj.windows ∧ s.comp.CursorTrue s.obj ∧
      (applies s.ctl.state = true → s.comp.tile = tileRect s.straps s.cfg) :=
  ⟨fun ⟨hviews, hcount, hover, hplace, hon, htile⟩ => ⟨⟨hviews, hcount, hover⟩, ⟨hplace, hon⟩, htile⟩,
    fun ⟨⟨hviews, hcount, hover⟩, ⟨hplace, hon⟩, htile⟩ => ⟨hviews, hcount, hover, hplace, hon, htile⟩⟩

/-- The reports of the object store leave the compositor true to the objects, when it was so already in what they leave out. -/
theorem State.reportObjects_true {w c : Bool} {s : State}
    (hviews : w = false → s.comp.ViewsTrue s.obj.windows ∧ s.comp.tile = tileRect s.straps s.cfg)
    (hcursor : c = false → s.comp.CursorTrue s.obj ∧ s.comp.tile = tileRect s.straps s.cfg) :
    (s.reportObjects w c).comp.ViewsTrue s.obj.windows ∧ (s.reportObjects w c).comp.CursorTrue s.obj ∧
      (s.reportObjects w c).comp.tile = tileRect s.straps s.cfg := by
  cases w <;> cases c
  case false.false => exact ⟨(hviews rfl).1, (hcursor rfl).1, (hviews rfl).2⟩
  case false.true =>
    obtain ⟨⟨hlist, hcount, hover⟩, htile⟩ := hviews rfl
    rw [htile] at hlist hcount
    exact ⟨⟨hlist, hcount, hover⟩, ⟨rfl, rfl⟩, rfl⟩
  case true.false =>
    obtain ⟨⟨hplace, hon⟩, htile⟩ := hcursor rfl
    rw [htile] at hplace
    exact ⟨⟨rfl, rfl, rfl⟩, ⟨hplace, hon⟩, rfl⟩
  case true.true => exact ⟨⟨rfl, rfl, rfl⟩, ⟨rfl, rfl⟩, rfl⟩

theorem writeObject_windows {c : Change} (h : changesWindows c = false) (o : Objects) :
    (writeObject c o).windows = o.windows := by
  cases c <;> simp [changesWindows] at h <;> simp [writeObject]
  split <;> rfl

theorem writeObject_cursor {c : Change} (h : changesCursor c = false) (o : Objects) :
    (writeObject c o).look = o.look ∧ (writeObject c o).curX = o.curX ∧ (writeObject c o).curY = o.curY := by
  cases c <;> simp [changesCursor] at h <;> simp [writeObject]
  all_goals (split <;> simp)

/-- A run of an apply remembers whether it wrote windows or the cursor (R108). -/
structure ApplyRun.Tracks (o : Objects) (run : ApplyRun) : Prop where
  windows : run.windows = false → run.obj.windows = o.windows
  cursor : run.cursor = false → run.obj.look = o.look ∧ run.obj.curX = o.curX ∧ run.obj.curY = o.curY

theorem ApplyRun.store_tracks {o : Objects} {run : ApplyRun} (g : Geometry) (own : Position) (r : HeldRecord) (h : run.Tracks o) :
    (run.store g own r).Tracks o := by
  unfold ApplyRun.store
  cases hvalid : changeValid g r.change
  · rw [applyObject_of_invalid _ hvalid]
    exact ⟨by simpa using h.windows, by simpa using h.cursor⟩
  · rw [applyObject_of_valid _ hvalid]
    constructor
    · intro hflag
      obtain ⟨hbefore, hnow⟩ : run.windows = false ∧ changesWindows r.change = false := by simpa using hflag
      simpa [writeObject_windows hnow] using h.windows hbefore
    · intro hflag
      obtain ⟨hbefore, hnow⟩ : run.cursor = false ∧ changesCursor r.change = false := by simpa using hflag
      simpa [writeObject_cursor hnow] using h.cursor hbefore

theorem dispatchAtFrame_tracks {o : Objects} (g : Geometry) (own : Position) (run : ApplyRun) (r : HeldRecord) (h : run.Tracks o) :
    (dispatchAtFrame g own run r).Tracks o := by
  unfold dispatchAtFrame
  split
  · split
    all_goals exact ⟨by simpa using h.windows, by simpa using h.cursor⟩
  · exact ApplyRun.store_tracks g own r h

theorem applyRunAt_tracks (s : State) : (applyRunAt s).Tracks s.obj :=
  List.foldlRecOn _ _ (motive := fun run : ApplyRun => run.Tracks s.obj) ⟨fun _ => rfl, fun _ => ⟨rfl, rfl, rfl⟩⟩
    fun run hrun r _ => dispatchAtFrame_tracks _ _ run r hrun

/-- The state in which a frame start in MEMBER, LEAVING and LOOPBACK makes its reports. -/
def State.applied (s : State) : State :=
  { s with
    obj := (applyRunAt s).obj
    shows := sendWord (showWork (applyRunAt s))
    sched.list := notDueAt s.timer.frame s.sched.list
    sub.receipts := s.sub.receipts ++ (applyRunAt s).receipts
    events.frame.recordsApplied := s.events.frame.recordsApplied || !(dueAt s.timer.frame s.sched.list).isEmpty }

theorem State.frameWork_eq (s : State) :
    s.frameWork =
      if (showWork (applyRunAt s)).state = s.shows.state then
        s.applied.reportObjects (applyRunAt s).windows (applyRunAt s).cursor
      else (s.applied.reportObjects (applyRunAt s).windows (applyRunAt s).cursor).reportShow := rfl

theorem State.frameWork_obj (s : State) : s.frameWork.obj = (applyRunAt s).obj := by
  rw [State.frameWork_eq]
  split <;> simp [State.applied]

/-- The report of the show state sets the windows' hiding alone (R155). -/
theorem State.frameWork_comp (s : State) :
    s.frameWork.comp =
      { (s.applied.reportObjects (applyRunAt s).windows (applyRunAt s).cursor).comp with hidden := s.frameWork.comp.hidden } := by
  rw [State.frameWork_eq]
  split <;> rfl

/-- In a state that applies, on the tile of the straps, a frame start leaves the compositor true to the objects. -/
theorem State.frameWork_true {s : State} (h : ComposeInv s) (happlies : applies s.ctl.state = true) : ComposeInv s.frameWork := by
  obtain ⟨⟨hviews, hcount, hover⟩, ⟨hplace, hon⟩, htile⟩ := (composeInv_iff s).1 h
  have hrun := applyRunAt_tracks s
  obtain ⟨hv, hc, ht⟩ := State.reportObjects_true (w := (applyRunAt s).windows) (c := (applyRunAt s).cursor) (s := s.applied)
    (fun hw => ⟨⟨by simpa [State.applied, hrun.windows hw] using hviews, by simpa [State.applied, hrun.windows hw] using hcount, hover⟩,
      htile happlies⟩)
    (fun hc => ⟨⟨by simpa [State.applied, hrun.cursor hc] using hplace, by simpa [State.applied, hrun.cursor hc] using hon⟩,
      htile happlies⟩)
  refine (composeInv_iff _).2 ?_
  rw [State.frameWork_comp, State.frameWork_obj]
  exact ⟨⟨hv.views, hv.qualifying, hv.overflow⟩, ⟨hc.placement, hc.onTile⟩, fun _ => by simpa [State.applied] using ht⟩

theorem qualifying_default (tile : Rect) : qualifying tile defaultObjects.windows = [] := by
  simp [qualifying]

theorem resetCompositor_viewsTrue (p : Straps) (c : Configuration) :
    (resetCompositor p c).ViewsTrue defaultObjects.windows := by
  constructor <;> simp [resetCompositor, deriveViews, qualifying_default, stackingOrder]

theorem resetCompositor_cursorTrue (p : Straps) (c : Configuration) : (resetCompositor p c).CursorTrue defaultObjects := by
  constructor <;> simp [resetCompositor]

/-- The same views and the same cursor on the same objects. -/
theorem ComposeInv.of_same {s t : State} (h : ComposeInv s) (hcomp : t.comp = { s.comp with hidden := t.comp.hidden, showing := t.comp.showing })
    (hobj : t.obj = s.obj) (htile : applies t.ctl.state = true → s.comp.tile = tileRect t.straps t.cfg) : ComposeInv t := by
  obtain ⟨⟨hviews, hcount, hover⟩, ⟨hplace, hon⟩, -⟩ := (composeInv_iff s).1 h
  rw [composeInv_iff, hcomp, hobj]
  exact ⟨⟨hviews, hcount, hover⟩, ⟨hplace, hon⟩, htile⟩

/-- What the defaults and an install end with. -/
theorem State.fullReport_true (s : State) : ComposeInv ((s.reportObjects true true).reportShow) := by
  obtain ⟨hv, hc, ht⟩ := State.reportObjects_true (w := true) (c := true) (s := s) nofun nofun
  exact (composeInv_iff _).2 ⟨⟨hv.views, hv.qualifying, hv.overflow⟩, ⟨hc.placement, hc.onTile⟩, fun _ => ht⟩

theorem SharedMove.keeps_compose {s t : State} (h : SharedMove s t) (hs : ComposeInv s) : ComposeInv t := by
  have htile := ((composeInv_iff s).1 hs).2.2
  cases h
  case frame h => exact hs.of_same (by rw [h.comp]) h.obj (by rw [h.straps, h.cfg, h.state]; exact htile)
  case acceptPeer => exact hs.of_same (by simp) (by simp) (by simpa using htile)
  case settleSent => exact hs.of_same (by simp) (by simp) (by simpa using htile)
  case changeState new hnew => exact hs.of_same rfl rfl fun happlies => (hnew happlies).elim htile id
  case takeDefaults => exact State.fullReport_true _
  case frameWork happlies => exact State.frameWork_true hs happlies
  case installImage => rw [State.deferredApply_eq]; exact State.fullReport_true _
  case configure c hoffline _ => exact hs.of_same rfl rfl fun happlies => by simp [hoffline, applies] at happlies
  case pinReset pins q =>
    exact (composeInv_iff _).2 ⟨resetCompositor_viewsTrue _ _, resetCompositor_cursorTrue _ _, nofun⟩
  case resetStation => exact (composeInv_iff _).2 ⟨resetCompositor_viewsTrue _ _, resetCompositor_cursorTrue _ _, nofun⟩
  all_goals exact hs

/-! ### The bounds of the view list, and what hides the windows (R150, R155) -/

/-- The view list within four entries, at most eight windows counted, the overflow flag true to the count (R150, R152). -/
structure Compositor.ViewsBounded (k : Compositor) : Prop where
  views : k.views.length ≤ 4
  qualifying : k.qualifying ≤ 8
  overflow : k.overflow = true ↔ 4 < k.qualifying

theorem qualifying_length_le (tile : Rect) (windows : Vector (Option Window) 8) : (qualifying tile windows).length ≤ 8 :=
  (List.length_filterMap_le _ _).trans (by simp)

theorem deriveViews_length_le (tile : Rect) (windows : Vector (Option Window) 8) : (deriveViews tile windows).length ≤ 4 := by
  simp [deriveViews, Config.viewCapacity]

theorem State.reportObjects_bounded {w c : Bool} {s : State} (h : w = false → s.comp.ViewsBounded) :
    (s.reportObjects w c).comp.ViewsBounded := by
  have hviews : (recomputeViews s.straps s.cfg s.obj s.comp).ViewsBounded :=
    ⟨deriveViews_length_le _ _, qualifying_length_le _ _, decide_eq_true_iff⟩
  cases w <;> cases c
  case false.false => exact h rfl
  case false.true => exact ⟨(h rfl).views, (h rfl).qualifying, (h rfl).overflow⟩
  all_goals exact ⟨hviews.views, hviews.qualifying, hviews.overflow⟩

@[simp] theorem State.reportObjects_hidden (w c : Bool) (s : State) : (s.reportObjects w c).comp.hidden = s.comp.hidden := by
  cases w <;> cases c <;> rfl

theorem hidesWindows_iff (st : ShowState) : hidesWindows st = true ↔ st = .stopped .blank := by
  cases st with
  | stopped mode => cases mode <;> simp [hidesWindows]
  | _ => simp [hidesWindows]

theorem viewInv_iff (s : State) :
    ViewInv s ↔ s.comp.ViewsBounded ∧ (s.comp.hidden = true ↔ s.shows.state = .stopped .blank) :=
  ⟨fun ⟨hviews, hcount, hover, hhidden⟩ => ⟨⟨hviews, hcount, hover⟩, hhidden⟩,
    fun ⟨⟨hviews, hcount, hover⟩, hhidden⟩ => ⟨hviews, hcount, hover, hhidden⟩⟩

theorem ViewInv.of_same {s t : State} (h : ViewInv s) (hcomp : t.comp = { s.comp with showing := t.comp.showing })
    (hshow : t.shows.state = s.shows.state) : ViewInv t := by
  unfold ViewInv
  rw [hcomp, hshow]
  exact h

theorem State.fullReport_viewInv (s : State) : ViewInv ((s.reportObjects true true).reportShow) := by
  obtain ⟨hviews, hcount, hover⟩ := State.reportObjects_bounded (w := true) (c := true) (s := s) nofun
  exact (viewInv_iff _).2 ⟨⟨hviews, hcount, hover⟩, by simpa [State.reportShow] using hidesWindows_iff _⟩

theorem State.frameWork_viewInv {s : State} (h : ViewInv s) : ViewInv s.frameWork := by
  obtain ⟨hbounded, hhidden⟩ := (viewInv_iff s).1 h
  obtain ⟨hviews, hcount, hover⟩ := State.reportObjects_bounded (w := (applyRunAt s).windows) (c := (applyRunAt s).cursor)
    (s := s.applied) fun _ => hbounded
  rw [State.frameWork_eq, viewInv_iff]
  split
  case isTrue hstate =>
    refine ⟨⟨hviews, hcount, hover⟩, ?_⟩
    simpa [State.applied, sendWord, hstate] using hhidden
  case isFalse => exact ⟨⟨hviews, hcount, hover⟩, hidesWindows_iff _⟩

theorem SharedMove.keeps_views {s t : State} (h : SharedMove s t) (hs : ViewInv s) : ViewInv t := by
  cases h
  case frame h => exact hs.of_same h.comp h.show_state
  case acceptPeer => exact hs.of_same (by simp) (by simp)
  case settleSent => exact hs.of_same (by simp) (by simp)
  case takeDefaults => exact State.fullReport_viewInv _
  case frameWork => exact State.frameWork_viewInv hs
  case installImage => rw [State.deferredApply_eq]; exact State.fullReport_viewInv _
  case pinReset => exact ⟨Nat.zero_le _, Nat.zero_le _, by simp [State.afterPinReset, resetCompositor], by
    simp [State.afterPinReset, resetCompositor, resetShow]⟩
  case resetStation => exact ⟨Nat.zero_le _, Nat.zero_le _, by simp [State.resetStation, resetCompositor], by
    simp [State.resetStation, resetCompositor, resetShow]⟩
  all_goals exact hs

end Sys2Proof.Machine

namespace Sys2Proof.Proofs
open Sys2Proof Sys2Proof.Machine

/-- Settles O58: the show state and its countdown move together, and each change of either ends with the compositor's report. -/
theorem stepKeepsShowAndViewLaw : Obligations.StepKeepsShowAndViewLaw :=
  ⟨fun s t hs hstep => step_keeps_of_moves (P := ShowInv) (fun _ _ h => h) SharedMove.keeps_show s t hstep hs,
    fun s t hs hstep => step_keeps_of_moves (P := ViewInv) (fun _ _ h => h) SharedMove.keeps_views s t hstep hs⟩

/-- Settles O59: an apply reports what it wrote, on the tile that stands in the states that apply; the other writers of the objects report
everything. -/
theorem stepKeepsComposition : Obligations.StepKeepsComposition :=
  fun s t hs hstep => step_keeps_of_moves (P := ComposeInv) (fun _ _ h => h) SharedMove.keeps_compose s t hstep hs

end Sys2Proof.Proofs

/-! SUPPORT. The configuration ranges under every move, and the law of the service controller under every command. -/

namespace Sys2Proof.Machine

theorem SharedMove.keeps_config {s t : State} (h : SharedMove s t) (hs : ConfigInv s) : ConfigInv t := by
  unfold ConfigInv at *
  cases h
  case frame h => rw [h.cfg]; exact hs
  case configure c _ hrange => exact hrange hs
  case pinReset => exact defaultConfiguration_inRange
  all_goals simpa using hs

/-! ### The law of the service controller (R163, R165 to R168, R170 to R172) -/

/-- What `PanelInv` says of the power state, without the pending command. -/
structure Service.PowerLaw (v : Service) : Prop where
  timer : v.powerTimer.isSome = true ↔ v.power = .rising ∨ v.power = .falling
  offRequest : v.command = .powerOff → v.request = false
  condition : v.power = .rising ∨ v.power = .on → v.request = true ∧ v.presence.value = true ∧ v.latch.value = true

/-- A debounce timer runs just while the raw line differs from the debounced value (R163). -/
def DebouncedInput.Lawful (i : DebouncedInput) : Prop := i.timer.isSome = true ↔ i.raw ≠ i.value

/-- Each debounce timer runs as it should. -/
def Service.InputsLawful (v : Service) : Prop := v.presence.Lawful ∧ v.latch.Lawful ∧ v.button.Lawful

/-- `PanelInv`, of the service controller alone. -/
structure Service.Lawful (v : Service) : Prop extends v.PowerLaw where
  pending : v.command ≠ .none → v.power = .rising ∨ v.power = .falling
  inputs : v.InputsLawful

theorem panelInv_iff (s : State) : PanelInv s ↔ s.svc.Lawful :=
  ⟨fun ⟨htimer, hpending, hoff, hcondition, hinputs⟩ => ⟨⟨htimer, hoff, hcondition⟩, hpending, hinputs .presence, hinputs .latch, hinputs .button⟩,
    fun ⟨⟨htimer, hoff, hcondition⟩, hpending, hpresence, hlatch, hbutton⟩ =>
      ⟨htimer, hpending, hoff, hcondition, fun p => by cases p <;> assumption⟩⟩

theorem conditionHolds_iff (v : Service) :
    conditionHolds v = true ↔ v.request = true ∧ v.presence.value = true ∧ v.latch.value = true := by
  simp [conditionHolds, and_assoc]

theorem enterOff_law {v : Service} (hoff : v.command = .powerOff → v.request = false) : (enterOff v).PowerLaw := by
  unfold enterOff
  split
  case isTrue h => exact ⟨by simp [enterRising], hoff, fun _ => (conditionHolds_iff v).1 h⟩
  case isFalse => exact ⟨by simp, hoff, by simp⟩

theorem enterFalling_law {v : Service} (hoff : v.command = .powerOff → v.request = false) : (enterFalling v).PowerLaw := by
  unfold enterFalling
  split
  · exact ⟨by simp, hoff, by simp⟩
  · exact enterOff_law hoff

theorem enterPowerFault_law {v : Service} (hoff : v.command = .powerOff → v.request = false) : (enterPowerFault v).PowerLaw :=
  ⟨by simp [enterPowerFault], hoff, by simp [enterPowerFault]⟩

/-- The judgement restores the condition in RISING and ON after a change of request, presence or latch (R165 to R167). -/
theorem judgePower_law {v : Service} (htimer : v.powerTimer.isSome = true ↔ v.power = .rising ∨ v.power = .falling)
    (hoff : v.command = .powerOff → v.request = false) : (judgePower v).PowerLaw := by
  have hlaw : (v.power = .rising ∨ v.power = .on → conditionHolds v = true) → v.PowerLaw := fun h =>
    ⟨htimer, hoff, fun hp => (conditionHolds_iff v).1 (h hp)⟩
  unfold judgePower
  split
  case h_1 hp =>
    split
    case isTrue h => exact ⟨by simp [enterRising], hoff, fun _ => (conditionHolds_iff v).1 h⟩
    case isFalse => exact hlaw (by simp [hp])
  case h_2 => split <;> [exact hlaw fun _ => ‹_›; exact enterFalling_law hoff]
  case h_3 => split <;> [exact hlaw fun _ => ‹_›; exact enterFalling_law hoff]
  case h_4 hp => exact hlaw (by simp [hp])
  case h_5 hp => exact hlaw (by simp [hp])

/-- A command that no outcome has reached waits in RISING or FALLING, or is a POWER_OFF in ON (R171, R172). -/
theorem reachedOutcome_none {c : ServiceCommand} {p : PowerState} (h : reachedOutcome c p = none) :
    c = .none ∨ p = .rising ∨ p = .falling ∨ (c = .powerOff ∧ p = .on) := by
  cases c <;> cases p <;> simp_all [reachedOutcome]

theorem completeCommand_lawful {v : Service} (h : v.PowerLaw) (hinputs : v.InputsLawful) : (completeCommand v).Lawful := by
  unfold completeCommand
  split
  · exact ⟨⟨h.timer, nofun, h.condition⟩, fun hne => absurd rfl hne, hinputs⟩
  case h_2 hnone =>
    refine ⟨h, fun hne => ?_, hinputs⟩
    obtain hc | hp | hp | ⟨hc, hp⟩ := reachedOutcome_none hnone
    · exact absurd hc hne
    · exact .inl hp
    · exact .inr hp
    · have hon := (h.condition (.inr hp)).1
      rw [h.offRequest hc] at hon
      cases hon

/-- The two controllers differ in the LED and the follow flag alone. -/
def LedOnly (v w : Service) : Prop :=
  w = { v with led := w.led, blinkHigh := w.blinkHigh, blinkElapsed := w.blinkElapsed, follow := w.follow }

theorem LedOnly.lawful {v w : Service} (h : LedOnly v w) (hv : v.Lawful) : w.Lawful := by
  rw [h]
  exact ⟨⟨hv.timer, hv.offRequest, hv.condition⟩, hv.pending, hv.inputs⟩

theorem setLed_ledOnly (led : LedState) (v : Service) : LedOnly v (setLed led v) := by
  unfold setLed
  split <;> rfl

theorem LedOnly.trans {u v w : Service} (h : LedOnly u v) (h' : LedOnly v w) : LedOnly u w := by
  unfold LedOnly at *
  rw [h', h]

theorem reportLeaveBegun_ledOnly (v : Service) : LedOnly v (reportLeaveBegun v) := (setLed_ledOnly .blink v).trans rfl

theorem reportLeaveDone_ledOnly (v : Service) : LedOnly v (reportLeaveDone v) := by
  unfold reportLeaveDone
  split
  · exact (setLed_ledOnly .on v).trans rfl
  · rfl

theorem applyLed_ledOnly (led : BitVec 3) (v : Service) : LedOnly v (applyLed led v) := by
  unfold applyLed
  split
  · rfl
  · exact (setLed_ledOnly _ v).trans rfl

/-- A frame start touches the service controller with the report of a leave alone (R174). -/
theorem State.frameStart_ledOnly (o : Bool) (s : State) : LedOnly s.svc (s.frameStart o).svc := by
  have hleave (u : State) : LedOnly u.svc u.leaveDone.svc := by
    unfold State.leaveDone
    dsimp only
    split
    · simpa using reportLeaveDone_ledOnly u.svc
    · simp [LedOnly]
  have hwork (u : State) : LedOnly u.svc u.blockWork.svc := by
    unfold State.blockWork
    split
    case h_6 =>
      unfold State.leavingFrame
      split
      · exact hleave u
      · simp [LedOnly]
    all_goals simp [LedOnly]
  simpa [State.frameStart] using hwork (s.endFrame.startTimer o)

theorem State.autoLeaveRequest_ledOnly (s : State) : LedOnly s.svc s.autoLeaveRequest.svc := by
  have hboth := (reportLeaveBegun_ledOnly s.svc).trans (reportLeaveDone_ledOnly _)
  unfold State.autoLeaveRequest
  split
  case h_1 => simpa using reportLeaveBegun_ledOnly s.svc
  case h_2 => simpa using hboth
  case h_3 => simpa using hboth
  all_goals rfl

theorem State.buttonPress_ledOnly (s : State) : LedOnly s.svc s.buttonPress.svc := by
  unfold State.buttonPress
  dsimp only
  split
  · exact State.autoLeaveRequest_ledOnly _
  · rfl

theorem DebouncedInput.Lawful.advance {i : DebouncedInput} (h : i.Lawful) (d : Ticks) : (i.advance d).Lawful := by
  simpa [DebouncedInput.advance, DebouncedInput.Lawful] using h

theorem Service.Lawful.advance {v : Service} (h : v.Lawful) (d : Ticks) : (v.advance d).Lawful :=
  ⟨⟨by simpa [Service.advance] using h.timer, h.offRequest, h.condition⟩, h.pending,
    h.inputs.1.advance d, h.inputs.2.1.advance d, h.inputs.2.2.advance d⟩

theorem DebouncedInput.Lawful.lineTo {i : DebouncedInput} (h : i.Lawful) (level : Bool) : (i.lineTo level).Lawful := by
  unfold DebouncedInput.lineTo
  split
  · exact h
  · unfold DebouncedInput.Lawful
    split <;> simp_all

theorem DebouncedInput.settle_lawful (i : DebouncedInput) : i.settle.Lawful := by
  simp [DebouncedInput.Lawful, DebouncedInput.settle]

theorem Service.InputsLawful.input {v : Service} (h : v.InputsLawful) (p : PanelInput) : (v.input p).Lawful := by
  obtain ⟨hpresence, hlatch, hbutton⟩ := h
  cases p <;> assumption

/-- A new input leaves the others as they were. -/
theorem Service.InputsLawful.setInput {v : Service} (h : v.InputsLawful) (p : PanelInput) {i : DebouncedInput} (hi : i.Lawful) :
    (v.setInput p i).InputsLawful := by
  obtain ⟨hpresence, hlatch, hbutton⟩ := h
  cases p
  case presence => exact ⟨hi, hlatch, hbutton⟩
  case latch => exact ⟨hpresence, hi, hbutton⟩
  case button => exact ⟨hpresence, hlatch, hi⟩

/-- A change of a raw line changes no debounced value. -/
theorem Service.Lawful.lineTo {v : Service} (h : v.Lawful) (p : PanelInput) (level : Bool) :
    (v.setInput p ((v.input p).lineTo level)).Lawful := by
  have hvalue : ((v.input p).lineTo level).value = (v.input p).value := by
    unfold DebouncedInput.lineTo
    split <;> rfl
  have hinputs := h.inputs.setInput p ((h.inputs.input p).lineTo level)
  cases p
  case presence => exact ⟨⟨h.timer, h.offRequest, fun hp => hvalue ▸ h.condition hp⟩, h.pending, hinputs⟩
  case latch => exact ⟨⟨h.timer, h.offRequest, fun hp => hvalue ▸ h.condition hp⟩, h.pending, hinputs⟩
  case button => exact ⟨⟨h.timer, h.offRequest, h.condition⟩, h.pending, hinputs⟩

@[simp] theorem judgePower_inputs (v : Service) :
    (judgePower v).presence = v.presence ∧ (judgePower v).latch = v.latch ∧ (judgePower v).button = v.button := by
  unfold judgePower enterFalling enterOff enterRising
  repeat' split
  all_goals exact ⟨rfl, rfl, rfl⟩

/-- A judgement and the completion after it restore the law, after a change of request, command, presence or latch. -/
theorem judged_lawful {v : Service} (htimer : v.powerTimer.isSome = true ↔ v.power = .rising ∨ v.power = .falling)
    (hoff : v.command = .powerOff → v.request = false) (hinputs : v.InputsLawful) :
    (completeCommand (judgePower v)).Lawful :=
  completeCommand_lawful (judgePower_law htimer hoff) (by simpa [Service.InputsLawful] using hinputs)

theorem State.acceptPowerOn_lawful {s : State} (led : BitVec 3) (h : s.svc.Lawful) : (s.acceptPowerOn led).svc.Lawful := by
  have hled := (applyLed_ledOnly led s.svc).lawful h
  exact judged_lawful hled.timer nofun hled.inputs

theorem State.acceptPowerOff_lawful {s : State} (led : BitVec 3) (h : s.svc.Lawful) : (s.acceptPowerOff led).svc.Lawful := by
  have hled := (applyLed_ledOnly led s.svc).lawful h
  unfold State.acceptPowerOff State.servicePower
  dsimp only
  split
  · refine completeCommand_lawful (enterOff_law fun _ => rfl) ?_
    rw [enterOff, if_neg (by simp [conditionHolds])]
    exact hled.inputs
  · exact judged_lawful hled.timer (fun _ => rfl) hled.inputs

/-- The end of a debounce: the value is the raw level, and the power condition is judged on it (R163, R165). -/
theorem State.debounced_lawful {s : State} (p : PanelInput) (h : s.svc.Lawful) :
    (State.debounced p { s with svc := s.svc.setInput p (s.svc.input p).settle }).svc.Lawful := by
  have hinputs := h.inputs.setInput p (s.svc.input p).settle_lawful
  cases p
  case presence => exact judged_lawful h.timer h.offRequest hinputs
  case latch => exact judged_lawful h.timer h.offRequest hinputs
  case button =>
    have hsettled : (s.svc.setInput .button (s.svc.input .button).settle).Lawful :=
      ⟨⟨h.timer, h.offRequest, h.condition⟩, h.pending, hinputs⟩
    unfold State.debounced
    dsimp only
    split
    · exact (State.buttonPress_ledOnly _).lawful hsettled
    · exact hsettled

theorem effect_powerGood_lawful {s : State} (h : s.svc.Lawful) : (effect .powerGood s).svc.Lawful := by
  refine completeCommand_lawful ?_ ?_
  · split
    case isTrue hp => exact ⟨by simp, h.offRequest, fun _ => h.condition (.inl hp)⟩
    case isFalse => exact ⟨h.timer, h.offRequest, h.condition⟩
  · split <;> exact h.inputs

theorem effect_powerGoodLost_lawful {s : State} (h : s.svc.Lawful) : (effect .powerGoodLost s).svc.Lawful := by
  refine completeCommand_lawful ?_ ?_
  · split
    · exact enterPowerFault_law h.offRequest
    · exact enterOff_law h.offRequest
    all_goals exact ⟨h.timer, h.offRequest, h.condition⟩
  · unfold enterOff enterRising enterPowerFault
    repeat' split
    all_goals exact h.inputs

theorem effect_powerTimerExpiry_lawful {s : State} (h : s.svc.Lawful) : (effect .powerTimerExpiry s).svc.Lawful := by
  have hfault : (completeCommand (enterPowerFault s.svc)).Lawful :=
    completeCommand_lawful (enterPowerFault_law h.offRequest) h.inputs
  simp only [effect, exec, execPowerTimerExpiry]
  split
  · exact hfault
  · exact hfault
  all_goals exact h

theorem settledInput_lawful (level : Bool) : (settledInput level).Lawful := by
  simp [DebouncedInput.Lawful, settledInput]

theorem resetService_lawful (pins : ResetPins) : (resetService pins).Lawful :=
  ⟨⟨by simp [resetService], nofun, by simp [resetService]⟩, fun hne => absurd rfl hne,
    settledInput_lawful _, settledInput_lawful _, settledInput_lawful _⟩

/-- The commands that reach the service controller keep its law, the others leave it as it was. -/
theorem effect_lawful (c : Instr) (s : State) (h : s.svc.Lawful) : (effect c s).svc.Lawful := by
  cases c
  case pinReset pins => exact resetService_lawful pins
  case ownFrameTimerExpiry => exact (s.frameStart_ledOnly true).lawful h
  case wbStrobeEdge reading =>
    have hadvanced : (s.advance (reading - s.timer.elapsed)).endPulse.svc.Lawful := h.advance _
    simp only [effect, exec, execWbStrobeEdge, State.strobeEdge]
    repeat' split
    · exact hadvanced
    · exact (State.frameStart_ledOnly false _).lawful hadvanced
    · exact hadvanced
  case powerOn led =>
    simp only [effect, exec, execPowerOn]
    split
    · exact State.acceptPowerOn_lawful led h
    · exact h
  case powerOff led =>
    simp only [effect, exec, execPowerOff]
    split
    · exact State.acceptPowerOff_lawful led h
    · exact h
  case serviceLed led =>
    have hled : LedOnly s.svc (applyLed led s.svc) := applyLed_ledOnly led s.svc
    have hlaw := hled.lawful h
    simp only [effect, exec, execServiceLed]
    repeat' split
    · exact h
    · exact ⟨⟨hlaw.timer, hlaw.offRequest, hlaw.condition⟩, hlaw.pending, hlaw.inputs⟩
    · exact h
  case panelLineChange input level => exact h.lineTo input level
  case debounceExpiry input =>
    simp only [effect, exec, execDebounceExpiry]
    split
    · exact State.debounced_lawful input h
    · exact h
  case powerGood => exact effect_powerGood_lawful h
  case powerGoodLost => exact effect_powerGoodLost_lawful h
  case powerTimerExpiry => exact effect_powerTimerExpiry_lawful h
  case ledBlinkToggle =>
    simp only [effect, exec, execLedBlinkToggle]
    split
    · exact LedOnly.lawful rfl h
    · exact h
  case counterRead counter => cases counter <;> exact h
  case slotOpen => simp only [effect, exec, execSlotOpen]; split <;> simpa using h
  case ownSlotOpen => simp only [effect, exec, execOwnSlotOpen]; split <;> simpa using h
  case slotClose => simp only [effect, exec, execSlotClose]; split <;> simpa using h
  case messageReceived => simp only [effect, exec, execMessageReceived]; split <;> simpa using h
  case readback => simp only [effect, exec, execReadback]; split <;> simpa using h
  case loopedHandover => simp only [effect, exec, execLoopedHandover]; split <;> simpa using h
  case join => simpa [effect, exec, execJoin] using h
  case leave => simpa [effect, exec, execLeave] using h
  case loopback => simpa [effect, exec, execLoopback] using h
  case unloop => simpa [effect, exec, execUnloop] using h
  case clearFault => simpa [effect, exec, execClearFault] using h
  case submit => simpa [effect, exec, execSubmit] using h
  case stageWrite => simpa [effect, exec, execStageWrite] using h
  case palDataWrite => simpa [effect, exec, execPalDataWrite] using h
  case cursorDataWrite => simpa [effect, exec, execCursorDataWrite] using h
  case configWrite => simpa [effect, exec, execConfigWrite] using h
  all_goals exact h

end Sys2Proof.Machine

namespace Sys2Proof.Proofs
open Sys2Proof Sys2Proof.Machine

/-- Settles O55: a configuration write is judged field by field, and every change of request, presence, latch or power state ends with the
judgement of the power condition and the completion of a command. -/
theorem stepKeepsConfigAndPowerLaw : Obligations.StepKeepsConfigAndPowerLaw :=
  ⟨fun s t hs hstep => step_keeps_of_moves (P := ConfigInv) (fun _ _ h => h) SharedMove.keeps_config s t hstep hs,
    fun s t hs hstep => step_keeps (P := PanelInv) (fun _ _ h => h)
      (fun s h => (panelInv_iff _).2 (((panelInv_iff s).1 h).advance 1))
      (fun c s h => (panelInv_iff _).2 (effect_lawful c s ((panelInv_iff s).1 h))) s t hstep hs⟩

end Sys2Proof.Proofs

/-! SUPPORT. What the station state fixes in the other blocks, block by block, and each operation that keeps it. -/

namespace Sys2Proof.Machine

/-! ### The law, block by block -/

/-- What the station state fixes in the wall bus interface (R1, R14, R16, R18). -/
structure BusLaw (st : StationState) (sending : Bool) (awaiting : Awaiting) (runCount : Nat) : Prop where
  sending : sending = true → transmits st = true
  pair : awaiting = .pair → transmits st = true
  looped : awaiting = .looped → st = .loopback
  runCount_le : runCount ≤ 1
  runCount_zero : transmits st = false → runCount = 0

/-- What the station state fixes in the snapshot unit (R40, R133, R135, R136). -/
structure SnapLaw (st : StationState) (heard streaming : Bool) (coll : Collection) (eLost : Option Frame) : Prop where
  streaming : streaming = true → st = .member
  idle : coll = .idle ↔ st ≠ .joining
  joining : st = .joining → eLost.isSome = true
  lost : eLost.isSome = true → st = .listening ∨ st = .joining
  heard : st = .listening → heard = true → eLost.isSome = true

/-- In OFFLINE and FAULT there is nothing to apply and nothing to send (R34, R53). -/
def QuietLaw (st : StationState) (list : List HeldRecord) (outbound : List OutRecord) : Prop :=
  st = .offline ∨ st = .fault → list = [] ∧ outbound = []

/-- `StationInv`, block by block. -/
structure StationLaw (s : State) : Prop where
  drive : s.timer.driving = true → transmits s.ctl.state = true
  bus : BusLaw s.ctl.state s.bus.sending s.bus.awaiting s.bus.runCount
  snap : SnapLaw s.ctl.state s.ctl.memberHeard s.snap.streaming s.snap.coll s.snap.eLost
  leave : s.ctl.leaveFrame.isSome = true ↔ s.ctl.state = .leaving
  reason : s.ctl.faultReason = .none ↔ s.ctl.state ≠ .fault
  quiet : QuietLaw s.ctl.state s.sched.list s.sub.outbound
  roster : s.ctl.state = .offline ∨ s.ctl.state = .fault ∨ s.ctl.state = .loopback → s.roster = clearedRoster
  showing : s.comp.showing = true → applies s.ctl.state = true ∧ s.svc.power = .on

theorem stationInv_iff (s : State) : StationInv s ↔ StationLaw s :=
  ⟨fun h => ⟨h.driving, ⟨h.sending, h.awaitingPair, h.awaitingLooped, h.runCount.1, h.runCount.2⟩,
      ⟨h.streaming, h.collection, h.eLost.1, h.eLost.2, h.heard⟩, h.leaveFrame, h.faultReason, h.quiet, h.roster, h.showing⟩,
    fun h => ⟨h.drive, h.bus.sending, h.bus.pair, h.bus.looped, ⟨h.bus.runCount_le, h.bus.runCount_zero⟩, h.snap.streaming,
      h.snap.idle, ⟨h.snap.joining, h.snap.lost⟩, h.snap.heard, h.quiet, h.leave, h.reason, h.roster, h.showing⟩⟩

/-- The states in which a record may be held or sent. -/
def busy (st : StationState) : Bool := st != .offline && st != .fault

theorem quietLaw_of_busy {st : StationState} {l : List HeldRecord} {q : List OutRecord} (h : busy st = true) : QuietLaw st l q := by
  rintro (rfl | rfl) <;> cases h

theorem busy_of_builds {st : StationState} (h : buildsMessages st = true) : busy st = true := by
  revert h
  cases st <;> decide

theorem busy_of_delivers {st : StationState} (h : delivers st = true) : busy st = true := by
  revert h
  cases st <;> decide

theorem builds_of_transmits {st : StationState} (h : transmits st = true) : buildsMessages st = true := by
  revert h
  cases st <;> decide

/-- Where messages are delivered the roster is in use. -/
theorem not_cleared_of_delivers {st : StationState} (h : delivers st = true) : ¬(st = .offline ∨ st = .fault ∨ st = .loopback) := by
  rintro (rfl | rfl | rfl) <;> cases h

/-- A message that waits for its outcome is in a state that builds messages. -/
theorem BusLaw.builds {st : StationState} {b : Bool} {a : Awaiting} {n : Nat} (h : BusLaw st b a n) (ha : a ≠ .none) :
    buildsMessages st = true := by
  cases a
  case none => exact absurd rfl ha
  case pair => exact builds_of_transmits (h.pair rfl)
  case looped => rw [h.looped rfl]; rfl

theorem BusLaw.settled {st : StationState} {b : Bool} {a : Awaiting} {n : Nat} (h : BusLaw st b a n) : BusLaw st b .none n :=
  ⟨h.sending, nofun, nofun, h.runCount_le, h.runCount_zero⟩

theorem BusLaw.silent {st : StationState} {b c : Bool} {a : Awaiting} {n : Nat} (h : BusLaw st b a n) (hc : c = true → b = true) :
    BusLaw st c a n :=
  ⟨fun hsend => h.sending (hc hsend), h.pair, h.looped, h.runCount_le, h.runCount_zero⟩

theorem BusLaw.counted {st : StationState} {b : Bool} {a : Awaiting} {n m : Nat} (h : BusLaw st b a n) (hm : m ≤ 1)
    (hzero : transmits st = false → m = 0) : BusLaw st b a m :=
  ⟨h.sending, h.pair, h.looped, hm, hzero⟩

/-! ### A change of station state (R33) -/

/-- In a state that does not transmit nothing is sent and no outcome is waited for, whatever stood before (R16, R17, R18). -/
theorem busOnState_silent {new : StationState} (h : transmits new = false) (b : Bus) :
    BusLaw new (busOnState new b).sending (busOnState new b).awaiting (busOnState new b).runCount := by
  have hcut : (cutMessage b).sending = false ∧ (cutMessage b).awaiting = .none := by
    unfold cutMessage
    split <;> simp_all
  simp only [busOnState, h]
  split
  case isTrue hf => cases hf
  case isFalse =>
    split
    all_goals exact ⟨by simp [hcut.1], by simp [hcut.2], by simp [hcut.2], Nat.zero_le _, fun _ => rfl⟩

theorem busOnState_law {st new : StationState} {b : Bus} (h : BusLaw st b.sending b.awaiting b.runCount)
    (hnew : transmits new = true → st ≠ .loopback) :
    BusLaw new (busOnState new b).sending (busOnState new b).awaiting (busOnState new b).runCount := by
  cases ht : transmits new
  case false => exact busOnState_silent ht b
  case true =>
    have hsame : busOnState new b = b := if_pos ht
    rw [hsame]
    exact ⟨fun _ => ht, fun _ => ht, fun ha => absurd (h.looped ha) (hnew ht), h.runCount_le, fun hf => by rw [ht] at hf; cases hf⟩

theorem snapOnState_law {new : StationState} {heard : Bool} {u : Snapshot} (hlost : new = .joining → u.eLost.isSome = true)
    (hheard : new = .listening → heard = false) :
    SnapLaw new heard (snapOnState new u).streaming (snapOnState new u).coll (snapOnState new u).eLost where
  streaming hs := by simpa [snapOnState] using And.right ((Bool.and_eq_true_iff).1 hs)
  idle := by by_cases hj : new = .joining <;> simp [snapOnState, hj]
  joining hj := by simpa [snapOnState, hj] using hlost hj
  lost hs := by
    by_cases hj : new = .joining
    · exact .inr hj
    · simp [snapOnState, hj] at hs
  heard hl hh := by rw [hheard hl] at hh; cases hh

/-- The conditions under which the station may go from the state it is in to a new one, and what the move leaves to its caller: the leave
frame, the fault reason, the lists and the roster. -/
theorem StationLaw.changeState {s : State} (h : StationLaw s) {new : StationState}
    (hloop : transmits new = true → s.ctl.state ≠ .loopback) (hlost : new = .joining → s.snap.eLost.isSome = true)
    (hheard : new = .listening → s.ctl.memberHeard = false) (hleave : s.ctl.leaveFrame.isSome = true ↔ new = .leaving)
    (hreason : s.ctl.faultReason = .none ↔ new ≠ .fault) (hquiet : QuietLaw new s.sched.list s.sub.outbound)
    (hroster : new = .offline ∨ new = .fault ∨ new = .loopback → s.roster = clearedRoster) : StationLaw (s.changeState new) where
  drive hd := And.right ((Bool.and_eq_true_iff).1 hd)
  bus := busOnState_law h.bus hloop
  snap := snapOnState_law hlost hheard
  leave := hleave
  reason := hreason
  quiet := hquiet
  roster := hroster
  showing hs := by
    obtain ⟨hbefore, hnew⟩ := (Bool.and_eq_true_iff).1 hs
    exact ⟨hnew, (h.showing hbefore).2⟩

/-- An entry to OFFLINE puts all blocks right but the fault reason, whatever they held (R34). -/
theorem State.enterOffline_law {s : State} (h : s.ctl.faultReason = .none) : StationLaw s.enterOffline where
  drive hd := And.right ((Bool.and_eq_true_iff).1 hd)
  bus := busOnState_silent rfl _
  snap := snapOnState_law nofun nofun
  leave := ⟨nofun, nofun⟩
  reason := ⟨nofun, fun _ => h⟩
  quiet _ := ⟨rfl, rfl⟩
  roster _ := rfl
  showing hs := by cases And.right ((Bool.and_eq_true_iff).1 hs)

/-- So does an entry to FAULT, with a reason (R53). -/
theorem State.enterFault_law {reason : FaultReason} (s : State) (h : reason ≠ .none) : StationLaw (s.enterFault reason) where
  drive hd := And.right ((Bool.and_eq_true_iff).1 hd)
  bus := busOnState_silent rfl _
  snap := snapOnState_law nofun nofun
  leave := ⟨nofun, nofun⟩
  reason := ⟨fun hr => absurd hr h, fun hne => absurd rfl hne⟩
  quiet _ := ⟨rfl, rfl⟩
  roster _ := rfl
  showing hs := by cases And.right ((Bool.and_eq_true_iff).1 hs)

theorem StationLaw.enterOffline {s : State} (h : StationLaw s) (hfault : s.ctl.state ≠ .fault) : StationLaw s.enterOffline :=
  State.enterOffline_law (h.reason.2 hfault)

/-- Between two states that are not LEAVING there is no leave frame. -/
theorem StationLaw.leave_of_ne {s : State} (h : StationLaw s) (hst : s.ctl.state ≠ .leaving) {new : StationState}
    (hnew : new ≠ .leaving) : s.ctl.leaveFrame.isSome = true ↔ new = .leaving :=
  ⟨fun hs => absurd (h.leave.1 hs) hst, fun hn => absurd hn hnew⟩

/-- A resync sets E_lost, which JOINING asks for (R45, R136). -/
theorem StationLaw.resync {s : State} (h : StationLaw s) (cause : ResyncCause) (hst : s.ctl.state = .member) :
    StationLaw (s.resync cause) where
  drive hd := And.right ((Bool.and_eq_true_iff).1 hd)
  bus := busOnState_law h.bus fun _ hl => by rw [hst] at hl; cases hl
  snap := ⟨by simp [State.resync, State.changeState, snapOnState], by simp [State.resync, State.changeState, snapOnState],
    fun _ => rfl, fun _ => .inr rfl, nofun⟩
  leave := h.leave_of_ne (by rw [hst]; decide) nofun
  reason := ⟨nofun, fun _ => h.reason.2 (by rw [hst]; decide)⟩
  quiet := quietLaw_of_busy rfl
  roster := nofun
  showing hs := by cases And.right ((Bool.and_eq_true_iff).1 hs)

theorem StationLaw.startListening {s : State} (h : StationLaw s) (hst : s.ctl.state = .offline) : StationLaw s.startListening where
  drive hd := And.right ((Bool.and_eq_true_iff).1 hd)
  bus := busOnState_silent rfl _
  snap := snapOnState_law nofun fun _ => rfl
  leave := h.leave_of_ne (by rw [hst]; decide) nofun
  reason := ⟨nofun, fun _ => rfl⟩
  quiet := quietLaw_of_busy rfl
  roster := nofun
  showing hs := by cases And.right ((Bool.and_eq_true_iff).1 hs)

@[simp] theorem State.takeDefaults_showing (s : State) : s.takeDefaults.comp.showing = s.comp.showing := rfl

theorem StationLaw.startLoopback {s : State} (h : StationLaw s) (hst : s.ctl.state = .offline) : StationLaw s.startLoopback where
  drive hd := And.right ((Bool.and_eq_true_iff).1 hd)
  bus := busOnState_silent rfl _
  snap := snapOnState_law nofun nofun
  leave := h.leave_of_ne (by rw [hst]; decide) nofun
  reason := ⟨nofun, fun _ => rfl⟩
  quiet := quietLaw_of_busy rfl
  roster _ := rfl
  showing hs := by
    have hbefore := h.showing (And.left ((Bool.and_eq_true_iff).1 hs))
    rw [hst] at hbefore
    cases hbefore.1

theorem StationLaw.beginLeaving {s : State} (h : StationLaw s) (requested : Bool) (hst : s.ctl.state = .member) :
    StationLaw (s.beginLeaving requested) where
  drive hd := And.right ((Bool.and_eq_true_iff).1 hd)
  bus := busOnState_law h.bus fun _ hl => by rw [hst] at hl; cases hl
  snap := snapOnState_law nofun nofun
  leave := ⟨fun _ => rfl, fun _ => rfl⟩
  reason := ⟨nofun, fun _ => h.reason.2 (by rw [hst]; decide)⟩
  quiet := quietLaw_of_busy rfl
  roster := nofun
  showing hs := ⟨rfl, (h.showing (And.left ((Bool.and_eq_true_iff).1 hs))).2⟩

theorem StationLaw.found {s : State} (h : StationLaw s) (hst : s.ctl.state = .listening) : StationLaw s.found where
  drive hd := And.right ((Bool.and_eq_true_iff).1 hd)
  bus := busOnState_law h.bus fun _ hl => by rw [hst] at hl; cases hl
  snap := snapOnState_law nofun nofun
  leave := h.leave_of_ne (by rw [hst]; decide) nofun
  reason := ⟨nofun, fun _ => h.reason.2 (by rw [hst]; decide)⟩
  quiet := quietLaw_of_busy rfl
  roster := nofun
  showing hs := by
    have hbefore := h.showing (And.left ((Bool.and_eq_true_iff).1 hs))
    rw [hst] at hbefore
    cases hbefore.1

theorem StationLaw.endListening {s : State} (h : StationLaw s) (hst : s.ctl.state = .listening) : StationLaw s.endListening := by
  unfold State.endListening
  split
  case isTrue hheard =>
    exact {
      drive := fun hd => And.right ((Bool.and_eq_true_iff).1 hd)
      bus := busOnState_law h.bus fun _ hl => by rw [hst] at hl; cases hl
      snap := snapOnState_law (fun _ => h.snap.heard hst hheard) nofun
      leave := h.leave_of_ne (by rw [hst]; decide) nofun
      reason := ⟨nofun, fun _ => h.reason.2 (by rw [hst]; decide)⟩
      quiet := quietLaw_of_busy rfl
      roster := nofun
      showing := fun hs => by cases And.right ((Bool.and_eq_true_iff).1 hs) }
  case isFalse => exact h.found hst

end Sys2Proof.Machine

namespace Sys2Proof.Machine

/-! ### Operations that stay in the station state -/

/-- Between states that agree block by block on what the law reads. -/
theorem StationLaw.of_same {s t : State} (h : StationLaw s) (hctl : t.ctl = s.ctl) (hdrive : t.timer.driving = s.timer.driving)
    (hbus : t.bus.sending = s.bus.sending ∧ t.bus.awaiting = s.bus.awaiting ∧ t.bus.runCount = s.bus.runCount)
    (hsnap : t.snap.streaming = s.snap.streaming ∧ t.snap.coll = s.snap.coll ∧ t.snap.eLost = s.snap.eLost)
    (hquiet : QuietLaw s.ctl.state t.sched.list t.sub.outbound) (hroster : t.roster = s.roster)
    (hshowing : t.comp.showing = s.comp.showing) (hpower : t.svc.power = s.svc.power) : StationLaw t := by
  obtain ⟨hsending, hawaiting, hcount⟩ := hbus
  obtain ⟨hstreaming, hcoll, hlost⟩ := hsnap
  constructor
  · rw [hdrive, hctl]; exact h.drive
  · rw [hctl, hsending, hawaiting, hcount]; exact h.bus
  · rw [hctl, hstreaming, hcoll, hlost]; exact h.snap
  · rw [hctl]; exact h.leave
  · rw [hctl]; exact h.reason
  · rw [hctl]; exact hquiet
  · rw [hctl, hroster]; exact h.roster
  · rw [hctl, hshowing, hpower]; exact h.showing

/-- Fewer records held keep a quiet station quiet. -/
theorem QuietLaw.of_sublist {st : StationState} {l l' : List HeldRecord} {q : List OutRecord} (h : QuietLaw st l q)
    (hl : l'.Sublist l) : QuietLaw st l' q := fun hst => by
  obtain ⟨hlist, hqueue⟩ := h hst
  rw [hlist] at hl
  exact ⟨List.sublist_nil.1 hl, hqueue⟩

theorem StationLaw.shrinkList {s : State} (h : StationLaw s) {l : List HeldRecord} (hl : l.Sublist s.sched.list)
    (receipts : List Receipt) : StationLaw { s with sched.list := l, sub.receipts := receipts } :=
  { h with quiet := h.quiet.of_sublist hl }

theorem StationLaw.clearPendingList {s : State} (h : StationLaw s) : StationLaw s.clearPendingList :=
  h.shrinkList (List.nil_sublist _) _

theorem StationLaw.dropUpTo {s : State} (h : StationLaw s) (bound : Frame) : StationLaw (s.dropUpTo bound) :=
  h.shrinkList List.filter_sublist _

theorem StationLaw.dropHeld {s : State} (h : StationLaw s) : StationLaw s.dropHeld :=
  { h.dropUpTo s.dropBoundNow with }

theorem StationLaw.adopt {s : State} (h : StationLaw s) (f : Frame) : StationLaw (s.adopt f) := { h with }

theorem StationLaw.startTimer {s : State} (h : StationLaw s) (o : Bool) : StationLaw (s.startTimer o) :=
  { h with drive := fun hd => (Bool.or_eq_true_iff.1 hd).elim h.drive fun ho => (Bool.and_eq_true_iff.1 ho).2 }

theorem StationLaw.sendDeferredWord {s : State} (h : StationLaw s) : StationLaw s.sendDeferredWord := { h with }

theorem StationLaw.evaluateOutput {s : State} (h : StationLaw s) : StationLaw s.evaluateOutput :=
  { h with showing := fun hs => (Bool.or_eq_true_iff.1 hs).elim h.showing fun hnow => by simpa using hnow }

theorem StationLaw.openWindow {s : State} (h : StationLaw s) (k : Position) : StationLaw (s.openWindow k) := { h with }

theorem StationLaw.windowClosed {s : State} (h : StationLaw s) (k : Position) : StationLaw (s.windowClosed k) :=
  { h with bus := h.bus.silent fun hb => (Bool.and_eq_true_iff.1 hb).1 }

theorem StationLaw.setAttempt {s : State} (h : StationLaw s) (b : List Byte) (e : Bool) : StationLaw (s.setAttempt b e) := { h with }

theorem StationLaw.countBad {s : State} (h : StationLaw s) : StationLaw s.countBad := by
  unfold State.countBad
  split
  · exact h
  · exact { h with }

theorem StationLaw.settled {s : State} (h : StationLaw s) : StationLaw { s with bus.awaiting := .none } :=
  { h with bus := h.bus.settled }

/-- A collection that is abandoned waits: it is IDLE as little as before (R139 to R141). -/
theorem SnapLaw.waiting {st : StationState} {heard streaming : Bool} {coll : Collection} {eLost : Option Frame}
    (h : SnapLaw st heard streaming coll eLost) {coll' : Collection} (hcoll : coll' = .idle ↔ coll = .idle) :
    SnapLaw st heard streaming coll' eLost :=
  ⟨h.streaming, hcoll.trans h.idle, h.joining, h.lost, h.heard⟩

theorem StationLaw.abandon {s : State} (h : StationLaw s) : StationLaw s.abandon := by
  unfold State.abandon
  split
  case isTrue hc => exact { h with snap := h.snap.waiting (iff_of_false nofun (by rw [hc]; nofun)) }
  case isFalse => exact h

theorem StationLaw.setEntry {s : State} (h : StationLaw s) (k : Position) (e : Entry) (hst : delivers s.ctl.state = true) :
    StationLaw (s.setEntry k e) :=
  { h with roster := fun hc => absurd hc (not_cleared_of_delivers hst) }

theorem StationLaw.updateEntry {s : State} (h : StationLaw s) (k : Position) (e : Entry) (hst : delivers s.ctl.state = true) :
    StationLaw (s.updateEntry k e) := by
  have hset := h.setEntry k e hst
  have hraised : StationLaw (s.setEntry k e).raiseRosterChanged := { hset with }
  unfold State.updateEntry
  dsimp only
  split
  · exact hset
  · split
    · exact hraised.abandon
    · exact hraised

theorem StationLaw.removeLeavers {s : State} (h : StationLaw s) (hst : delivers s.ctl.state = true) : StationLaw s.removeLeavers := by
  refine And.left (List.foldlRecOn (motive := fun t => StationLaw t ∧ delivers t.ctl.state = true) _ _ ⟨h, hst⟩ ?_)
  rintro t ⟨ht, hdel⟩ k -
  refine ⟨?_, by simpa using hdel⟩
  unfold State.removeLeaver
  split
  · exact ht.updateEntry _ _ hdel
  · exact ht

/-- E_lost moves, and is there as before or more (R136). -/
theorem SnapLaw.lostMoved {st : StationState} {heard streaming : Bool} {coll : Collection} {eLost : Option Frame}
    (h : SnapLaw st heard streaming coll eLost) (f : Frame) (hst : st = .listening ∨ st = .joining) :
    SnapLaw st heard streaming coll (some f) :=
  ⟨h.streaming, h.idle, fun _ => rfl, fun _ => hst, fun _ _ => rfl⟩

theorem StationLaw.ageELost {s : State} (h : StationLaw s) : StationLaw s.ageELost := by
  unfold State.ageELost
  split
  · exact h
  case h_2 e he =>
    split
    · exact { h with snap := h.snap.lostMoved _ (h.snap.lost (by rw [he]; rfl)) }
    · exact h

theorem StationLaw.startStream {s : State} (h : StationLaw s) : StationLaw s.startStream := by
  unfold State.startStream
  split
  case isTrue hstart =>
    have hmember : s.ctl.state = .member := by
      simp only [State.startsStream, Bool.and_eq_true, beq_iff_eq] at hstart
      exact hstart.1.1.1
    exact { h with snap := ⟨fun _ => hmember, h.snap.idle, h.snap.joining, h.snap.lost, h.snap.heard⟩ }
  case isFalse => exact h

theorem StationLaw.partSent {s : State} (h : StationLaw s) : StationLaw s.partSent := by
  unfold State.partSent
  repeat' split
  · exact { h with }
  · exact { h with snap := ⟨nofun, h.snap.idle, h.snap.joining, h.snap.lost, h.snap.heard⟩ }
  · exact h

@[simp] theorem State.reportObjects_showing (w c : Bool) (s : State) : (s.reportObjects w c).comp.showing = s.comp.showing := by
  cases w <;> cases c <;> rfl

@[simp] theorem State.frameWork_showing (s : State) : s.frameWork.comp.showing = s.comp.showing := by
  rw [State.frameWork_eq]
  split <;> simp [State.reportShow, State.applied]

theorem StationLaw.frameWork {s : State} (h : StationLaw s) (happlies : applies s.ctl.state = true) : StationLaw s.frameWork := by
  refine h.of_same (by simp) (by simp) (by simp) (by simp) (quietLaw_of_busy ?_) (by simp) (by simp) (by simp)
  generalize s.ctl.state = st at happlies
  revert happlies
  cases st <;> decide

/-! ### Arriving records (R86, R87) -/

theorem StationLaw.discardRecord {s : State} (h : StationLaw s) (r : HeldRecord) (hbusy : busy s.ctl.state = true) :
    StationLaw (s.discardRecord r) := by
  have hquiet (l : List HeldRecord) (q : List OutRecord) := quietLaw_of_busy (l := l) (q := q) hbusy
  have hreceipted : StationLaw (if r.origin = s.own then s.addReceipts [receiptOf r .discardedFull] else s) := by
    split
    · exact { h with }
    · exact h
  have hstate : (if r.origin = s.own then s.addReceipts [receiptOf r .discardedFull] else s).ctl = s.ctl := by split <;> rfl
  unfold State.discardRecord
  dsimp only
  split
  case h_1 hj => exact { hreceipted.abandon with snap := hreceipted.abandon.snap.lostMoved _ (.inr (by simpa [hstate] using hj)) }
  case h_2 hl => exact { hreceipted with snap := hreceipted.snap.lostMoved _ (.inl (by rw [hstate]; exact hl)) }
  all_goals exact hreceipted

theorem StationLaw.acceptRecord {s : State} (h : StationLaw s) (r : HeldRecord) (hbusy : busy s.ctl.state = true) :
    StationLaw (s.acceptRecord r) := by
  unfold State.acceptRecord
  repeat' split
  · exact { h with quiet := quietLaw_of_busy hbusy }
  · exact h.discardRecord r hbusy
  · exact { h with }

theorem StationLaw.acceptRecords {s : State} (h : StationLaw s) (records : List HeldRecord) (hbusy : busy s.ctl.state = true) :
    StationLaw (s.acceptRecords records) := by
  induction records generalizing s with
  | nil => exact h
  | cons r rest ih => exact ih (h.acceptRecord r hbusy) (by simpa using hbusy)

theorem StationLaw.takeRecords {s : State} (h : StationLaw s) (k : Position) (seq : SeqNum) (records : List (Change × Frame))
    (hst : delivers s.ctl.state = true) : StationLaw (s.takeRecords k seq records) := by
  induction records generalizing s seq with
  | nil => exact h
  | cons r rest ih =>
    exact ih ((h.setEntry k _ hst).acceptRecord ⟨r.1, r.2, k, seq⟩ (busy_of_delivers hst)) (seq + 1) (by simpa using hst)

/-! ### Delivery (R7) -/

/-- The law, in a state that delivers messages. -/
def Delivering (s : State) : Prop := StationLaw s ∧ delivers s.ctl.state = true

theorem Delivering.resync {s : State} (h : StationLaw s) (cause : ResyncCause) (hst : s.ctl.state = .member) :
    Delivering (s.resync cause) := ⟨h.resync cause hst, rfl⟩

theorem Delivering.updateEntry {s : State} (h : Delivering s) (k : Position) (e : Entry) : Delivering (s.updateEntry k e) :=
  ⟨h.1.updateEntry k e h.2, by simpa using h.2⟩

theorem Delivering.setEntry {s : State} (h : Delivering s) (k : Position) (e : Entry) : Delivering (s.setEntry k e) :=
  ⟨h.1.setEntry k e h.2, h.2⟩

theorem Delivering.mergeRule {s : State} (h : Delivering s) (m : Message) (hst : s.ctl.state = .member) : Delivering (s.mergeRule m) := by
  have hupdated := h.updateEntry m.sender (memberEntry m.mark)
  unfold State.mergeRule
  dsimp only
  split
  · split
    · exact hupdated
    · exact .resync hupdated.1 _ (by simpa using hst)
  · split
    · exact .resync (hupdated.1.adopt _).clearPendingList _ (by simpa using hst)
    · exact h.setEntry ..

theorem Delivering.rosterStep {s : State} (h : Delivering s) (m : Message) : Delivering (s.rosterStep m) := by
  unfold State.rosterStep
  dsimp only
  repeat' split
  all_goals first | exact h.updateEntry .. | exact h.setEntry .. | exact h.mergeRule m ‹_›

theorem StationLaw.firstMember {s : State} (h : StationLaw s) (m : Message) (hst : s.ctl.state = .listening) :
    StationLaw (s.firstMember m) :=
  { h with snap := ⟨h.snap.streaming, h.snap.idle, fun _ => rfl, fun _ => .inl hst, fun _ _ => rfl⟩ }

theorem StationLaw.restartJoining {s : State} (h : StationLaw s) (was : Bool) (m : Message) (hst : s.ctl.state = .joining) :
    StationLaw (s.restartJoining was m) := by
  have hcleared := ((h.adopt m.frame).clearPendingList).abandon
  have hjoining : ((s.adopt m.frame).clearPendingList).abandon.ctl.state = .joining := by simpa using hst
  exact { hcleared with snap := hcleared.snap.lostMoved _ (.inr hjoining) }

theorem Delivering.controllerStep {s : State} (h : Delivering s) (was : Bool) (m : Message) : Delivering (s.controllerStep was m) := by
  unfold State.controllerStep
  split
  case isFalse => exact h
  case isTrue =>
    split
    case h_1 hst =>
      split
      · exact h
      · exact ⟨h.1.firstMember m hst, h.2⟩
    case h_2 hst =>
      split
      · exact .resync (h.1.adopt _).clearPendingList _ hst
      · exact h
    case h_3 hst =>
      split
      · exact ⟨h.1.restartJoining was m hst, by simp [State.restartJoining, hst, delivers]⟩
      · exact h
    all_goals exact h

theorem Delivering.gapEffect {s : State} (h : Delivering s) : Delivering s.gapEffect := by
  unfold State.gapEffect
  split
  case h_1 hst => exact .resync h.1 _ hst
  case h_2 hst =>
    refine ⟨{ h.1.abandon with snap := h.1.abandon.snap.lostMoved _ (.inr (by simpa using hst)) }, ?_⟩
    simp [hst, delivers]
  case h_3 hst => exact ⟨{ h.1 with snap := h.1.snap.lostMoved _ (.inl hst) }, h.2⟩
  all_goals exact h

theorem Delivering.sequenceCheck {s : State} (h : Delivering s) (k : Position) (mark : SeqNum) : Delivering (s.sequenceCheck k mark) := by
  unfold State.sequenceCheck
  split
  · exact h
  · exact (h.setEntry k _).gapEffect

theorem StationLaw.scheduleStep {s : State} (h : Delivering s) (m : Message) : StationLaw (s.scheduleStep m) := by
  have hcheck := h.sequenceCheck m.sender m.mark
  unfold State.scheduleStep
  dsimp only
  split
  · split
    · exact hcheck.1.takeRecords _ _ _ hcheck.2
    all_goals exact hcheck.1
  · exact h.1

theorem StationLaw.judgePartZero {s : State} (h : StationLaw s) (p : Position) (f : Frame) (i c : Byte) (d : List Byte)
    (hcoll : s.snap.coll ≠ .idle) : StationLaw (s.judgePartZero p f i c d) := by
  unfold State.judgePartZero
  split
  · exact { h with snap := h.snap.waiting (iff_of_false nofun hcoll) }
  · exact h

theorem StationLaw.joining_of_collecting {s : State} (h : StationLaw s) (hcoll : s.snap.coll ≠ .idle) : s.ctl.state = .joining :=
  Decidable.byContradiction fun hne => hcoll (h.snap.idle.2 hne)

@[simp] theorem State.deferredApply_showing (s : State) : s.deferredApply.comp.showing = s.comp.showing := by
  rw [State.deferredApply_eq]
  exact State.reportObjects_showing true true _

theorem StationLaw.install {s : State} (h : StationLaw s) (hst : s.ctl.state = .joining) : StationLaw s.install := by
  have happlied : StationLaw s.writeImage.deferredApply :=
    h.of_same (by simp) (by simp) (by simp) (by simp) (quietLaw_of_busy (by rw [hst]; rfl)) (by simp) (by simp) (by simp)
  have hstate : s.writeImage.deferredApply.ctl = s.ctl := by simp
  unfold State.install
  split
  · split
    · exact happlied.changeState (by simp [hst]) nofun nofun
        (happlied.leave_of_ne (by rw [hstate, hst]; decide) nofun)
        ⟨nofun, fun _ => happlied.reason.2 (by rw [hstate, hst]; decide)⟩ (quietLaw_of_busy rfl) nofun
    · exact h.abandon
  · exact s.enterFault_law nofun

theorem StationLaw.collectPart {s : State} (h : StationLaw s) (data : List Byte) (hst : s.ctl.state = .joining) :
    StationLaw (s.collectPart data) := by
  have hwritten : StationLaw { s with snap.assembly := writePart s.snap.nextExpected data s.snap.assembly } := { h with }
  unfold State.collectPart
  dsimp only
  split
  · exact { hwritten with }
  · exact hwritten.install hst

theorem StationLaw.takePart {s : State} (h : StationLaw s) (p : Position) (f : Frame) (i c : Byte) (d : List Byte) :
    StationLaw (s.takePart p f i c d) := by
  unfold State.takePart
  split
  case h_1 => exact h
  case h_2 hcoll => exact h.judgePartZero p f i c d (by rw [hcoll]; decide)
  case h_3 hcoll =>
    have hne : s.snap.coll ≠ .idle := by rw [hcoll]; decide
    have habandoned : s.abandon.snap.coll ≠ .idle := by simp [State.abandon, hcoll]
    split
    · split
      · exact h.collectPart d (h.joining_of_collecting hne)
      · exact h.abandon.judgePartZero p f i c d habandoned
    · exact h

theorem StationLaw.snapshotStep {s : State} (h : StationLaw s) (m : Message) : StationLaw (s.snapshotStep m) := by
  unfold State.snapshotStep
  split
  · exact h.takePart ..
  all_goals exact h

theorem StationLaw.deliver {s : State} (h : StationLaw s) (m : Message) (hst : delivers s.ctl.state = true) : StationLaw (s.deliver m) :=
  (StationLaw.scheduleStep ((Delivering.rosterStep ⟨h, hst⟩ m).controllerStep _ m) m).snapshotStep m

/-! ### The wall bus interface -/

theorem StationLaw.readbackSucceeded {s : State} (h : StationLaw s) (hbusy : busy s.ctl.state = true) : StationLaw s.readbackSucceeded := by
  let noted : State := { s with bus.readback := .success, bus.runCount := 0, sub.outbound := waitingRecords s.sub.outbound }
  have hnoted : StationLaw noted := { h with bus := h.bus.counted (Nat.zero_le _) fun _ => rfl, quiet := quietLaw_of_busy hbusy }
  have htaken := hnoted.acceptRecords (sentRecords s.own s.sub.outbound) hbusy
  unfold State.readbackSucceeded
  dsimp only
  split
  · exact htaken.partSent
  · exact htaken

/-- A second failure in a row ends in FAULT, so the run count of a station that goes on is 1 (R16). -/
theorem StationLaw.readbackFailed {s : State} (h : StationLaw s) (hst : transmits s.ctl.state = true) : StationLaw s.readbackFailed := by
  unfold State.readbackFailed
  dsimp only
  split
  case isTrue => exact State.enterFault_law _ nofun
  case isFalse hn =>
    have hsettled := h.bus.counted (m := s.bus.runCount + 1) (by omega) fun hf => by rw [hst] at hf; cases hf
    have hquiet (q : List OutRecord) : QuietLaw s.ctl.state s.sched.list q :=
      quietLaw_of_busy (busy_of_builds (builds_of_transmits hst))
    split
    case isTrue hmember =>
      refine StationLaw.resync ?_ _ hmember
      exact { h with bus := hsettled, quiet := hquiet _ }
    case isFalse => exact { h with bus := hsettled, quiet := hquiet _ }

theorem StationLaw.handOver {s : State} (h : StationLaw s) (hbusy : busy s.ctl.state = true) : StationLaw s.handOver :=
  StationLaw.readbackSucceeded (s := { s with bus.awaiting := .none, bus.sending := false })
    { h with bus := h.bus.settled.silent nofun } hbusy

theorem StationLaw.ageEntry {s : State} (h : StationLaw s) (k : Position) (hst : delivers s.ctl.state = true) :
    StationLaw (s.ageEntry k) := by
  unfold State.ageEntry
  dsimp only
  split
  · exact h.updateEntry _ _ hst
  · exact h.setEntry _ _ hst

theorem StationLaw.closePeerSlot {s : State} (h : StationLaw s) (k : Position) : StationLaw (s.closePeerSlot k) := by
  have hcounted : StationLaw (if s.bus.attempt = .receiving then s.countBad else s) := by
    split
    · exact h.countBad
    · exact h
  have hctl : (if s.bus.attempt = .receiving then s.countBad else s).ctl = s.ctl := by split <;> simp
  unfold State.closePeerSlot
  dsimp only
  split
  case isTrue hst => exact hcounted.ageEntry k (by rw [hctl]; exact hst.1)
  case isFalse => exact hcounted

theorem StationLaw.closeOwnSlot {s : State} (h : StationLaw s) : StationLaw s.closeOwnSlot := by
  unfold State.closeOwnSlot
  split
  case h_1 hpair =>
    exact StationLaw.readbackFailed (s := { s with bus.awaiting := .none, bus.attempt := .ended })
      { h with bus := h.bus.settled } (h.bus.pair hpair)
  case h_2 hlooped => exact h.handOver (busy_of_builds (h.bus.builds (by rw [hlooped]; decide)))
  case h_3 =>
    split
    · exact h.countBad
    · exact h

theorem StationLaw.closeSlot {s : State} (h : StationLaw s) (k : Position) : StationLaw (s.closeSlot k) := by
  refine StationLaw.windowClosed ?_ k
  split
  · exact h.closeOwnSlot
  · exact h.closePeerSlot k

theorem StationLaw.closeOpenSlot {s : State} (h : StationLaw s) : StationLaw s.closeOpenSlot := by
  unfold State.closeOpenSlot
  split
  · exact h
  · exact h.closeSlot _

theorem StationLaw.openOwnWindow {s : State} (h : StationLaw s) : StationLaw s.openOwnWindow := by
  unfold State.openOwnWindow
  split
  · exact h
  · exact h.closeOpenSlot.openWindow _

theorem StationLaw.buildOwnMessage {s : State} (h : StationLaw s) (hst : buildsMessages s.ctl.state = true) :
    StationLaw s.buildOwnMessage := by
  refine { h with
    bus := ⟨id, fun hpair => ?pair, fun hlooped => ?looped, h.bus.runCount_le, h.bus.runCount_zero⟩
    quiet := quietLaw_of_busy (busy_of_builds hst) }
  case pair =>
    have hloop : s.ctl.state ≠ .loopback := fun hl => by simp [State.buildOwnMessage, hl] at hpair
    change transmits s.ctl.state = true
    generalize s.ctl.state = st at hst hloop
    revert hst hloop
    cases st <;> decide
  case looped =>
    refine Decidable.byContradiction fun hloop => ?_
    have hloop' : ¬s.ctl.state = .loopback := hloop
    simp [State.buildOwnMessage, hloop'] at hlooped

theorem StationLaw.sendOwnMessage {s : State} (h : StationLaw s) : StationLaw s.sendOwnMessage := by
  unfold State.sendOwnMessage
  split
  case isTrue hst => exact h.buildOwnMessage hst
  case isFalse => exact { h with }

theorem StationLaw.takeValid {s : State} (h : StationLaw s) (m : Message) : StationLaw (s.takeValid m) := by
  unfold State.takeValid
  dsimp only
  split
  · split
    · exact s.enterFault_law nofun
    · exact h
  · split
    case isTrue hst => exact { h.deliver m hst with }
    case isFalse => exact h

theorem StationLaw.judgeAttempt {s : State} (h : StationLaw s) : StationLaw s.judgeAttempt := by
  unfold State.judgeAttempt
  split
  · exact h.countBad
  · split
    · exact h.countBad
    · exact h.takeValid _

theorem StationLaw.receiveRun {s : State} (h : StationLaw s) (b : List Byte) (e : AttemptEnd) : StationLaw (s.receiveRun b e) := by
  cases e
  case unfinished => exact h.setAttempt b false
  case invalid => exact (h.setAttempt b true).countBad
  case complete => exact (h.setAttempt b true).judgeAttempt

theorem StationLaw.settleReadback {s : State} (h : StationLaw s) (complete : Bool) (hpair : s.bus.awaiting = .pair) :
    StationLaw (s.settleReadback complete) := by
  have hst := h.bus.pair hpair
  unfold State.settleReadback
  dsimp only
  split
  · exact h.settled.readbackSucceeded (busy_of_builds (builds_of_transmits hst))
  · exact h.settled.readbackFailed hst

theorem StationLaw.readbackRun {s : State} (h : StationLaw s) (b : List Byte) (e : AttemptEnd) (hpair : s.bus.awaiting = .pair) :
    StationLaw (s.readbackRun b e) := by
  cases e
  case unfinished => exact h.setAttempt b false
  case invalid => exact (h.setAttempt b true).settleReadback false hpair
  case complete => exact (h.setAttempt b true).settleReadback true hpair

/-! ### The frame start (R23) -/

theorem StationLaw.endFrame {s : State} (h : StationLaw s) : StationLaw s.endFrame := by
  have hclosed := h.closeOpenSlot
  have hended : StationLaw { s.closeOpenSlot with bus.attempt := .ended } := { hclosed with }
  unfold State.endFrame
  dsimp only
  split
  · exact hended.countBad
  · exact hclosed

theorem StationLaw.joiningFrame {s : State} (h : StationLaw s) (hst : delivers s.ctl.state = true) : StationLaw s.joiningFrame :=
  ((h.sendDeferredWord.removeLeavers hst).dropHeld).ageELost

theorem StationLaw.countListening {s : State} (h : StationLaw s) (hst : s.ctl.state = .listening) : StationLaw s.countListening := by
  have hcounted : StationLaw { s with ctl.countdown := s.ctl.countdown - 1 } := { h with }
  unfold State.countListening
  dsimp only
  split
  · exact hcounted.endListening hst
  · exact hcounted

theorem StationLaw.leaveDone {s : State} (h : StationLaw s) (hst : s.ctl.state = .leaving) : StationLaw s.leaveDone := by
  have hoffline := h.sendDeferredWord.enterOffline (by simp [hst])
  unfold State.leaveDone
  dsimp only
  split
  · exact { hoffline with showing := fun hs => absurd (hoffline.showing hs).1 nofun }
  · exact hoffline

theorem StationLaw.blockWork {s : State} (h : StationLaw s) : StationLaw s.blockWork := by
  unfold State.blockWork
  split
  case h_1 => exact h.sendDeferredWord
  case h_2 => exact h.sendDeferredWord
  case h_3 hst => exact (h.joiningFrame (by rw [hst]; rfl)).countListening (by simpa using hst)
  case h_4 hst => exact h.joiningFrame (by rw [hst]; rfl)
  case h_5 hst =>
    exact ((h.removeLeavers (by rw [hst]; rfl)).frameWork (by simp [hst, applies])).startStream
  case h_6 hst =>
    unfold State.leavingFrame
    split
    · exact h.leaveDone hst
    · exact (h.removeLeavers (by rw [hst]; rfl)).frameWork (by simp [hst, applies])
  case h_7 hst => exact h.frameWork (by rw [hst]; rfl)

theorem StationLaw.frameStart {s : State} (h : StationLaw s) (o : Bool) : StationLaw (s.frameStart o) :=
  ((h.endFrame.startTimer o).blockWork.evaluateOutput).openWindow 0

theorem StationLaw.advance {s : State} (h : StationLaw s) (d : Ticks) : StationLaw (s.advance d) := { h with }

theorem StationLaw.endPulse {s : State} (h : StationLaw s) : StationLaw s.endPulse :=
  { h with drive := fun hd => h.drive (Bool.and_eq_true_iff.1 hd).1 }

theorem StationLaw.strobeEdge {s : State} (h : StationLaw s) : StationLaw s.strobeEdge := by
  unfold State.strobeEdge
  repeat' split
  · exact h
  · exact h.frameStart false
  · exact { h with }

/-! ### The commands -/

theorem StationLaw.portWrite {s : State} (h : StationLaw s) (i : BitVec 7) : StationLaw (s.portWrite i) := { h with }

theorem StationLaw.raiseCommandRefused {s : State} (h : StationLaw s) : StationLaw s.raiseCommandRefused := { h with }

theorem StationLaw.joinCommand {s : State} (h : StationLaw s) : StationLaw s.joinCommand := by
  unfold State.joinCommand
  split
  case isTrue hst => split <;> [exact h.startListening hst; exact s.enterFault_law nofun]
  case isFalse => exact h.raiseCommandRefused

theorem StationLaw.loopbackCommand {s : State} (h : StationLaw s) : StationLaw s.loopbackCommand := by
  unfold State.loopbackCommand
  split
  case isTrue hst => split <;> [exact h.startLoopback hst; exact s.enterFault_law nofun]
  case isFalse => exact h.raiseCommandRefused

theorem StationLaw.unloopCommand {s : State} (h : StationLaw s) : StationLaw s.unloopCommand := by
  unfold State.unloopCommand
  split
  case isTrue hst => exact h.enterOffline (by rw [hst]; decide)
  case isFalse => exact h.raiseCommandRefused

/-- CLEAR_FAULT enters OFFLINE as if the reason had been removed first (R39). -/
theorem StationLaw.clearFaultCommand {s : State} (h : StationLaw s) : StationLaw s.clearFaultCommand := by
  unfold State.clearFaultCommand
  split
  case isTrue => exact State.enterOffline_law (s := { s with ctl.faultReason := .none }) rfl
  case isFalse => exact h.raiseCommandRefused

theorem StationLaw.leaveCommand {s : State} (h : StationLaw s) : StationLaw s.leaveCommand := by
  unfold State.leaveCommand
  split
  case h_1 hst => exact h.beginLeaving false hst
  case h_2 hst => exact h.enterOffline (by rw [hst]; decide)
  case h_3 hst => exact h.enterOffline (by rw [hst]; decide)
  all_goals exact h.raiseCommandRefused

/-- The reports of a leave leave the power state as it is. -/
theorem StationLaw.ledOnly {s : State} (h : StationLaw s) {v : Service} (hv : LedOnly s.svc v) : StationLaw { s with svc := v } :=
  { h with showing := fun hs => ⟨(h.showing hs).1, by rw [hv]; exact (h.showing hs).2⟩ }

theorem StationLaw.autoLeaveRequest {s : State} (h : StationLaw s) : StationLaw s.autoLeaveRequest := by
  have hreports (v : Service) : LedOnly v (reportLeaveDone (reportLeaveBegun v)) :=
    (reportLeaveBegun_ledOnly v).trans (reportLeaveDone_ledOnly _)
  unfold State.autoLeaveRequest
  split
  case h_1 hst => exact (h.beginLeaving true hst).ledOnly (reportLeaveBegun_ledOnly _)
  case h_2 hst => exact (h.enterOffline (by rw [hst]; decide)).ledOnly (hreports _)
  case h_3 hst => exact (h.enterOffline (by rw [hst]; decide)).ledOnly (hreports _)
  all_goals exact h

/-- A completion does not move the power state. -/
@[simp] theorem completeCommand_power (v : Service) : (completeCommand v).power = v.power := by
  unfold completeCommand
  split <;> rfl

/-- The tile is blanked at once when the power leaves ON (R169). -/
theorem StationLaw.servicePower {s : State} (h : StationLaw s) (v : Service) : StationLaw (s.servicePower v) :=
  { h with
    showing := fun hs => by
      obtain ⟨hbefore, hon⟩ := Bool.and_eq_true_iff.1 hs
      exact ⟨(h.showing hbefore).1, (completeCommand_power v).trans (beq_iff_eq.1 hon)⟩ }

theorem StationLaw.debounced {s : State} (h : StationLaw s) (p : PanelInput) : StationLaw (s.debounced p) := by
  cases p
  case presence => exact StationLaw.servicePower (s := { s with events.service.presenceChanged := true }) { h with } _
  case latch => exact StationLaw.servicePower (s := { s with events.service.latchChanged := true }) { h with } _
  case button =>
    have hpressed : StationLaw { s with events.service.buttonPressed := true } := { h with }
    simp only [State.debounced, State.buttonPress]
    repeat' split
    · exact hpressed.autoLeaveRequest
    · exact hpressed
    · exact h

theorem StationLaw.submit {s : State} (h : StationLaw s) (c : Option Change) (path : RefusalPath) : StationLaw (s.submit c path) := by
  unfold State.submit
  split
  case h_1 hrefusal =>
    obtain ⟨hsubmits, -⟩ := State.refusalOf_none hrefusal
    refine { h with quiet := quietLaw_of_busy ?_ }
    change busy s.ctl.state = true
    generalize s.ctl.state = st at hsubmits
    revert hsubmits
    cases st <;> decide
  case h_2 => exact { h with }

theorem StationLaw.paletteWrite {s : State} (h : StationLaw s) (value : Byte) : StationLaw (s.paletteWrite value) := by
  unfold State.paletteWrite
  split
  case h_3 =>
    refine StationLaw.submit ?_ ..
    exact { h with }
  all_goals exact { h with }

theorem StationLaw.cursorWrite {s : State} (h : StationLaw s) (value : Byte) : StationLaw (s.cursorWrite value) := by
  unfold State.cursorWrite
  dsimp only
  split
  · exact { h with }
  · refine StationLaw.submit ?_ ..
    exact { h with }

theorem StationLaw.takeConfig {s : State} (h : StationLaw s) (reg : ConfigReg) (c : Option Configuration) :
    StationLaw (s.takeConfig reg c) := by
  unfold State.takeConfig
  repeat' split
  · exact h
  · exact { h with }
  · exact { h with }

/-- The blocks that the law reads have their reset values. -/
theorem StationLaw.of_reset {s : State} (h : s.WallReset) (hsnap : s.snap = resetSnapshot) (hshowing : s.comp.showing = false) :
    StationLaw s := by
  obtain ⟨bad, hbus⟩ := h.bus
  obtain ⟨period, early, htimer⟩ := h.timer
  obtain ⟨out, hsched⟩ := h.sched
  constructor
  · rw [htimer]; nofun
  · rw [hbus]; exact ⟨nofun, nofun, nofun, Nat.zero_le _, fun _ => rfl⟩
  · rw [hsnap, h.ctl]; exact ⟨nofun, ⟨nofun, fun _ => rfl⟩, nofun, nofun, nofun⟩
  · rw [h.ctl]; exact ⟨nofun, nofun⟩
  · rw [h.ctl]; exact ⟨nofun, fun _ => rfl⟩
  · rw [hsched, h.sub]; exact fun _ => ⟨rfl, rfl⟩
  · exact fun _ => h.roster
  · rw [hshowing]; nofun

theorem effect_stationLaw (c : Instr) (s : State) (h : StationLaw s) : StationLaw (effect c s) := by
  cases c
  case pinReset pins => exact .of_reset (State.afterPinReset_wallReset pins s.pending) rfl rfl
  case resetStation => exact .of_reset (State.resetStation_wallReset _) rfl rfl
  case ownFrameTimerExpiry => exact h.frameStart true
  case wbStrobeEdge reading => exact (h.advance _).endPulse.strobeEdge
  case strobeDriveEnd => exact { h with drive := nofun }
  case transmitComplete => exact { h with bus := h.bus.silent nofun }
  case slotOpen k =>
    simp only [effect, exec, execSlotOpen]
    split <;> [exact h; exact h.closeOpenSlot.openWindow k]
  case ownSlotOpen =>
    simp only [effect, exec, execOwnSlotOpen]
    split <;> [exact h; exact h.openOwnWindow.sendOwnMessage]
  case slotClose k =>
    simp only [effect, exec, execSlotClose]
    split <;> [exact h.closeSlot k; exact h]
  case messageReceived bytes stopBit =>
    simp only [effect, exec, execMessageReceived]
    split <;> [exact h.receiveRun ..; exact h]
  case readback bytes stopBit =>
    simp only [effect, exec, execReadback]
    split
    case isTrue hpair => exact h.readbackRun _ _ hpair.1
    case isFalse => exact h
  case loopedHandover =>
    simp only [effect, exec, execLoopedHandover]
    split
    case isTrue hlooped => exact h.handOver (busy_of_builds (h.bus.builds (by rw [hlooped]; decide)))
    case isFalse => exact h
  case join => exact (h.portWrite _).joinCommand
  case leave => exact (h.portWrite _).leaveCommand
  case loopback => exact (h.portWrite _).loopbackCommand
  case unloop => exact (h.portWrite _).unloopCommand
  case clearFault => exact (h.portWrite _).clearFaultCommand
  case submit => exact (h.portWrite _).submit ..
  case stageWrite reg n value =>
    simp only [effect, exec, execStageWrite, State.storeStage]
    split <;> exact { h with }
  case palDataWrite value => exact (h.portWrite _).paletteWrite value
  case cursorDataWrite value => exact (h.portWrite _).cursorWrite value
  case counterRead counter => cases counter <;> exact { h with }
  case configWrite reg bytes => exact StationLaw.takeConfig (s := s.portWriteAt (indexOf (.config reg)) bytes.length) { h with } ..
  case powerOn led =>
    simp only [effect, exec, execPowerOn]
    split <;> [exact (h.portWrite _).servicePower _; exact { h with }]
  case powerOff led =>
    simp only [effect, exec, execPowerOff]
    split <;> [exact (h.portWrite _).servicePower _; exact { h with }]
  case serviceLed led =>
    have hled := (h.portWrite (indexOf .serviceControl)).ledOnly (applyLed_ledOnly led s.svc)
    simp only [effect, exec, execServiceLed]
    repeat' split
    · exact { h with }
    · exact { hled with }
    · exact { h with }
  case panelLineChange input level =>
    have hpower : (s.svc.setInput input ((s.svc.input input).lineTo level)).power = s.svc.power := by cases input <;> rfl
    exact { h with showing := fun hs => ⟨(h.showing hs).1, hpower.trans (h.showing hs).2⟩ }
  case debounceExpiry input =>
    have hpower : (s.svc.setInput input (s.svc.input input).settle).power = s.svc.power := by cases input <;> rfl
    simp only [effect, exec, execDebounceExpiry]
    split
    · exact StationLaw.debounced (s := { s with svc := s.svc.setInput input (s.svc.input input).settle })
        { h with showing := fun hs => ⟨(h.showing hs).1, hpower.trans (h.showing hs).2⟩ } input
    · exact h
  case powerGood => exact h.servicePower _
  case powerGoodLost => exact h.servicePower _
  case powerTimerExpiry =>
    simp only [effect, exec, execPowerTimerExpiry]
    split
    · exact h.servicePower _
    · exact h.servicePower _
    all_goals exact h
  case ledBlinkToggle =>
    simp only [effect, exec, execLedBlinkToggle]
    split <;> [exact { h with }; exact h]
  all_goals exact { h with }

end Sys2Proof.Machine

namespace Sys2Proof.Proofs
open Sys2Proof Sys2Proof.Machine

/-- Settles O60: every operation keeps the law of each block, and a change of station state puts the blocks into that of the new state. -/
theorem stepKeepsStationLaw : Obligations.StepKeepsStationLaw :=
  fun s t hs hstep => (stationInv_iff t).2 (step_keeps (P := StationLaw) (fun _ _ h => { h with }) (fun _ h => h.advance 1)
    effect_stationLaw s t hstep ((stationInv_iff s).1 hs))

/-- Settles O54: the reset state is the wall side, the shared state and the service controller at their reset values. -/
theorem invariantsHoldAtReset : Obligations.InvariantsHoldAtReset :=
  ⟨defaultConfiguration_inRange, ⟨Nat.zero_le _, .nil⟩, ⟨Nat.zero_le _, Nat.zero_le _⟩, rfl,
    (viewInv_iff _).2 ⟨⟨Nat.zero_le _, Nat.zero_le _, by simp [State.reset, State.afterPinReset, resetCompositor]⟩,
      by simp [State.reset, State.afterPinReset, resetCompositor, resetShow]⟩,
    (panelInv_iff _).2 (resetService_lawful powerUpPins),
    (stationInv_iff _).2 (.of_reset (State.afterPinReset_wallReset powerUpPins []) rfl rfl),
    (composeInv_iff _).2 ⟨resetCompositor_viewsTrue _ _, resetCompositor_cursorTrue _ _, nofun⟩⟩

end Sys2Proof.Proofs

/-! SUPPORT. The queue under every command, and the moments at which each timer event falls due. -/

namespace Sys2Proof.Machine

/-! ### The queue (log 1) -/

/-- No command touches the queue. -/
theorem effect_pending (c : Instr) (s : State) : (effect c s).pending = s.pending := by
  cases c
  case slotOpen => simp only [effect, exec, execSlotOpen]; split <;> simp
  case ownSlotOpen => simp only [effect, exec, execOwnSlotOpen]; split <;> simp
  case slotClose => simp only [effect, exec, execSlotClose]; split <;> simp
  case messageReceived => simp only [effect, exec, execMessageReceived]; split <;> simp
  case readback => simp only [effect, exec, execReadback]; split <;> simp
  case loopedHandover => simp only [effect, exec, execLoopedHandover]; split <;> simp
  case ownFrameTimerExpiry => simp [effect, exec, execOwnFrameTimerExpiry]
  case wbStrobeEdge => simp [effect, exec, execWbStrobeEdge]
  case join => simp [effect, exec, execJoin]
  case leave => simp [effect, exec, execLeave]
  case loopback => simp [effect, exec, execLoopback]
  case unloop => simp [effect, exec, execUnloop]
  case clearFault => simp [effect, exec, execClearFault]
  case submit => simp [effect, exec, execSubmit]
  case stageWrite => simp [effect, exec, execStageWrite]
  case palDataWrite => simp [effect, exec, execPalDataWrite]
  case cursorDataWrite => simp [effect, exec, execCursorDataWrite]
  case configWrite => simp [effect, exec, execConfigWrite]
  case counterRead counter => cases counter <;> rfl
  case powerOn => simp only [effect, exec, execPowerOn]; split <;> rfl
  case powerOff => simp only [effect, exec, execPowerOff]; split <;> rfl
  case serviceLed => simp only [effect, exec, execServiceLed]; (repeat' split) <;> rfl
  case debounceExpiry => simp only [effect, exec, execDebounceExpiry]; split <;> simp
  case powerTimerExpiry => simp only [effect, exec, execPowerTimerExpiry]; split <;> rfl
  case ledBlinkToggle => simp only [effect, exec, execLedBlinkToggle]; split <;> rfl
  all_goals rfl

/-! ### When the timer events fall due (R1, R10, R18, R20, R22, R25) -/

/-- The expiry point in periods of 1/32: P, or 9/8 P (R20). -/
theorem State.expiryPoint_eq (s : State) :
    s.expiryPoint =
      (match s.ctl.state with
      | .joining | .member | .leaving | .loopback => 32
      | .offline | .listening | .fault => 36) * s.timer.period.toNat := by
  unfold State.expiryPoint State.period
  cases s.ctl.state <;> rfl

theorem State.dueFrameEvent_iff (s : State) (c : Instr) :
    s.dueFrameEvent = some c ↔ c = .ownFrameTimerExpiry ∧ s.expiryPoint ≤ s.timer.elapsed := by
  unfold State.dueFrameEvent
  split
  case isTrue hdue => rw [Option.some_inj, eq_comm]; simp [hdue]
  case isFalse hdue => simp [hdue]

theorem State.dueSlotEvent_of_open {s : State} {k : Position} (h : s.timer.openSlot = some k) (c : Instr) :
    s.dueSlotEvent = some c ↔
      (c = .slotClose k ∧ (k.val + 1) * s.period ≤ s.timer.elapsed) ∨
        (c = .ownSlotOpen ∧ s.timer.elapsed < (k.val + 1) * s.period ∧ k = s.own ∧ s.timer.ownOpened = false) := by
  simp only [State.dueSlotEvent, h]
  split
  case isTrue hdue => rw [Option.some_inj, eq_comm]; simp [hdue, Nat.not_lt.2 hdue]
  case isFalse hdue =>
    split
    case isTrue hown =>
      obtain ⟨rfl, hclosed⟩ := hown
      rw [Option.some_inj, eq_comm]
      simp [hdue, Nat.lt_of_not_le hdue, hclosed]
    case isFalse hown => simp [hdue, hown]

theorem State.dueSlotEvent_of_closed {s : State} (h : s.timer.openSlot = none) (c : Instr) :
    s.dueSlotEvent = some c ↔
      ∃ k : Position, c = .slotOpen k ∧ s.timer.noGuard = false ∧ s.timer.nextSlot = k.val ∧ k.val * s.period ≤ s.timer.elapsed := by
  simp only [State.dueSlotEvent, h]
  split
  case isTrue hdue =>
    obtain ⟨hguard, hslot, htime⟩ := hdue
    constructor
    · intro hc
      exact ⟨⟨s.timer.nextSlot, hslot⟩, (Option.some.inj hc).symm, hguard, rfl, htime⟩
    · rintro ⟨k, rfl, -, hk, -⟩
      simp [hk]
  case isFalse hdue =>
    constructor
    · nofun
    · rintro ⟨k, -, hguard, hk, htime⟩
      exact absurd ⟨hguard, hk ▸ k.isLt, hk ▸ htime⟩ hdue

/-- The own message has gone out whole (R1, R18). -/
theorem State.messageTime_eq (s : State) : s.messageTime = 64 * s.bus.txBuffer.length := rfl

theorem State.dueBusEvent_iff (s : State) (c : Instr) :
    s.dueBusEvent = some c ↔
      (c = .transmitComplete ∧ s.bus.sending = true ∧ s.messageTime ≤ s.bus.sendElapsed) ∨
      (c = .loopedHandover ∧ s.bus.sending = false ∧ s.bus.awaiting = .looped ∧ s.messageTime ≤ s.bus.sendElapsed) ∨
      (c = .strobeDriveEnd ∧ s.timer.driving = true ∧ Config.strobePulse ≤ s.timer.driveElapsed ∧
        ¬(s.messageTime ≤ s.bus.sendElapsed ∧ (s.bus.sending = true ∨ s.bus.awaiting = .looped))) := by
  unfold State.dueBusEvent
  split
  case isTrue hsent => rw [Option.some_inj, eq_comm]; simp [hsent]
  case isFalse hsent =>
    split
    case isTrue hlooped => rw [Option.some_inj, eq_comm]; simp_all
    case isFalse hlooped =>
      split
      case isTrue hpulse => rw [Option.some_inj, eq_comm]; grind
      case isFalse hpulse => grind

/-! ### When the service events fall due (R163, R166, R167, R173) -/

theorem DebouncedInput.due_iff (i : DebouncedInput) : i.due = true ↔ ∃ t, i.timer = some t ∧ 20000 * 32 ≤ t := by
  unfold DebouncedInput.due
  cases i.timer with
  | none => simp
  | some t =>
    simp only [Option.any_some, Option.some.injEq, exists_eq_left']
    exact decide_eq_true_iff

theorem State.dueServiceEvent_iff (s : State) (c : Instr) :
    s.dueServiceEvent = some c ↔
      let powered := (s.svc.powerTimer.any fun t => decide (Config.powerTimeout ≤ t)) = true
      let quiet := s.svc.presence.due = false ∧ s.svc.latch.due = false ∧ s.svc.button.due = false
      (c = .debounceExpiry .presence ∧ s.svc.presence.due = true) ∨
      (c = .debounceExpiry .latch ∧ s.svc.presence.due = false ∧ s.svc.latch.due = true) ∨
      (c = .debounceExpiry .button ∧ s.svc.presence.due = false ∧ s.svc.latch.due = false ∧ s.svc.button.due = true) ∨
      (c = .powerTimerExpiry ∧ quiet ∧ powered) ∨
      (c = .ledBlinkToggle ∧ quiet ∧ ¬powered ∧ s.svc.led = .blink ∧ Config.blinkTime ≤ s.svc.blinkElapsed) := by
  unfold State.dueServiceEvent
  split
  case isTrue hpresence => rw [Option.some_inj, eq_comm]; simp [hpresence]
  case isFalse hpresence =>
    split
    case isTrue hlatch => rw [Option.some_inj, eq_comm]; simp [hpresence, hlatch]
    case isFalse hlatch =>
      split
      case isTrue hbutton => rw [Option.some_inj, eq_comm]; simp [hpresence, hlatch, hbutton]
      case isFalse hbutton =>
        split
        case isTrue hpower => rw [Option.some_inj, eq_comm]; simp [hpresence, hlatch, hbutton, hpower]
        case isFalse hpower =>
          split
          case isTrue hblink => rw [Option.some_inj, eq_comm]; simp [hpresence, hlatch, hbutton, hpower, hblink]
          case isFalse hblink =>
            simp only [Bool.not_eq_true] at hpresence hlatch hbutton
            simp [hpresence, hlatch, hbutton, hpower]
            exact fun _ hled => Nat.lt_of_not_le fun helapsed => hblink ⟨hled, helapsed⟩

/-- An opening with no window open, in its turn. -/
theorem exec_slotOpen_closed {s : State} {k : Position} (hguard : s.timer.noGuard = false) (hnext : s.timer.nextSlot ≤ k.val)
    (hopen : s.timer.openSlot = none) : exec (.slotOpen k) s = .next (s.openWindow k) := by
  simp only [exec, execSlotOpen]
  rw [if_neg (by simp [hguard]; exact hnext), State.closeOpenSlot, hopen]

/-- The states that build no message (R10). -/
theorem buildsMessages_eq_false_iff (st : StationState) :
    buildsMessages st = false ↔ st = .offline ∨ st = .listening ∨ st = .fault := by
  cases st <;> simp [buildsMessages]

end Sys2Proof.Machine

namespace Sys2Proof.Proofs
open Sys2Proof Sys2Proof.Machine

/-- Settles O1. -/
theorem stepTakesFrontCommand : Obligations.StepTakesFrontCommand :=
  fun c s => ⟨step_cons c s.pending _ rfl, effect c s, exec_eq_next c s, effect_pending c s⟩

/-- Settles O2: with an empty queue a step is `idleStep`. -/
theorem idleStepRunsDueEventOrTick : Obligations.IdleStepRunsDueEventOrTick := by
  intro s hqueue
  rw [step_nil s hqueue, idleStep]
  exact ⟨fun c hdue => by rw [hdue], fun hdue => by rw [hdue]; rfl⟩

/-- Settles O3, by what each of the four due functions answers; a slot opening with no window open is `openWindow`. -/
theorem slotWindowsAndExpiryOnTime : Obligations.SlotWindowsAndExpiryOnTime := by
  unfold Obligations.SlotWindowsAndExpiryOnTime
  refine ⟨fun s => ?frame, fun s => ?bus, fun s => ?service, fun s => rfl, fun k s hguard hnext hopen => ?opening⟩
  case frame =>
    intro p
    refine ⟨?expiry, ?close, ?own, ?opens, ?slots, fun c hc => ((s.dueFrameEvent_iff c).1 hc).1⟩
    case expiry => rw [State.dueFrameEvent_iff, State.expiryPoint_eq]; exact and_iff_right rfl
    all_goals cases hslot : s.timer.openSlot
    case close.none => simp [State.dueSlotEvent_of_closed hslot]
    case close.some j => intro k; simp [State.dueSlotEvent_of_open hslot, State.period, p]; aesop
    case own.none => simp [State.dueSlotEvent_of_closed hslot]
    case own.some j => simp [State.dueSlotEvent_of_open hslot, State.period, p]; aesop
    case opens.none => intro k; simp [State.dueSlotEvent_of_closed hslot, State.period, p]
    case opens.some j => simp [State.dueSlotEvent_of_open hslot]
    case slots.none =>
      intro c hc
      obtain ⟨k, rfl, -⟩ := (State.dueSlotEvent_of_closed hslot c).1 hc
      exact .inl ⟨k, .inr rfl⟩
    case slots.some j =>
      intro c hc
      obtain ⟨rfl, -⟩ | ⟨rfl, -⟩ := (State.dueSlotEvent_of_open hslot c).1 hc
      · exact .inl ⟨j, .inl rfl⟩
      · exact .inr rfl
  case bus =>
    intro sent
    simp only [State.dueBusEvent_iff, State.messageTime_eq]
    refine ⟨by simp [sent], by simp [sent], by simp [sent, Config.strobePulse, Config.microsecond], fun c hc => ?_⟩
    exact hc.imp And.left fun h => h.imp And.left And.left
  case service =>
    intro held powered quiet
    have hheld (p : PanelInput) : held p ↔ (s.svc.input p).due = true := (DebouncedInput.due_iff _).symm
    have hquiet : quiet ↔ s.svc.presence.due = false ∧ s.svc.latch.due = false ∧ s.svc.button.due = false := by
      simp only [quiet, hheld, Bool.not_eq_true]
      exact ⟨fun h => ⟨h .presence, h .latch, h .button⟩, fun h p => by cases p <;> simp [Service.input, h]⟩
    have hpowered : powered ↔ (s.svc.powerTimer.any fun t => decide (Config.powerTimeout ≤ t)) = true := by
      simp only [powered]
      cases s.svc.powerTimer with
      | none => simp
      | some t =>
        simp only [Option.any_some, Option.some.injEq, exists_eq_left']
        exact decide_eq_true_iff.symm
    simp only [State.dueServiceEvent_iff, hheld, hquiet, hpowered, Service.input]
    refine ⟨by simp, by simp [and_comm], by simp; tauto, by simp; tauto, ?_, fun c hc => ?_⟩
    · simp [Config.blinkTime, Config.microsecond]; tauto
    · obtain ⟨rfl, -⟩ | ⟨rfl, -⟩ | ⟨rfl, -⟩ | ⟨rfl, -⟩ | ⟨rfl, -⟩ := hc <;> simp
  case opening =>
    refine ⟨_, exec_slotOpen_closed hguard hnext hopen, rfl, rfl, rfl, rfl, ?_, rfl⟩
    have hbuilds : (!buildsMessages s.ctl.state) = decide (s.ctl.state = .offline ∨ s.ctl.state = .listening ∨ s.ctl.state = .fault) := by
      rw [Bool.eq_iff_iff, decide_eq_true_iff, Bool.not_eq_true', buildsMessages_eq_false_iff]
    rw [← hbuilds]
    rfl

/-- Settles O10: each of the four changes the field it names. -/
theorem busAndPortEventsOfOneField : Obligations.BusAndPortEventsOfOneField := by
  unfold Obligations.BusAndPortEventsOfOneField
  refine ⟨fun s => rfl, fun index value s => ?ignored, fun s => rfl, fun s => ⟨fun hblink => ?blink, fun hblink => ?steady⟩⟩
  case ignored =>
    have hcount : ∃ n, nextTransaction false index s.port = ⟨false, index, n + 1⟩ := by
      unfold nextTransaction
      split
      · split
        case isTrue t _ hsame => exact ⟨t.count, by rw [← hsame.1, ← hsame.2]⟩
        case isFalse => exact ⟨0, rfl⟩
      · exact ⟨0, rfl⟩
    obtain ⟨n, hn⟩ := hcount
    exact ⟨_, n, rfl, rfl, congrArg some hn, rfl⟩
  case blink =>
    refine ⟨_, rfl, ?_, ?_⟩
    all_goals rw [if_pos hblink]
    simp [ledLine, hblink]
  case steady => exact congrArg _ (if_neg hblink)

end Sys2Proof.Proofs

/-! SUPPORT. The register map by index, the COMMAND byte and its refusals, configuration writes and interrupts. -/

namespace Sys2Proof.Machine

/-! ### Commands refused (R35, R181) -/

theorem effect_join_of_not_offline {s : State} (h : s.ctl.state ≠ .offline) :
    effect .join s = (s.portWrite 0x28).raiseCommandRefused :=
  if_neg h

theorem effect_loopback_of_not_offline {s : State} (h : s.ctl.state ≠ .offline) :
    effect .loopback s = (s.portWrite 0x28).raiseCommandRefused :=
  if_neg h

theorem effect_unloop_of_not_loopback {s : State} (h : s.ctl.state ≠ .loopback) :
    effect .unloop s = (s.portWrite 0x28).raiseCommandRefused :=
  if_neg h

theorem effect_clearFault_of_not_fault {s : State} (h : s.ctl.state ≠ .fault) :
    effect .clearFault s = (s.portWrite 0x28).raiseCommandRefused :=
  if_neg h

theorem effect_leave_of_not_leaving {s : State} (hlistening : s.ctl.state ≠ .listening) (hjoining : s.ctl.state ≠ .joining)
    (hmember : s.ctl.state ≠ .member) : effect .leave s = (s.portWrite 0x28).raiseCommandRefused := by
  change (s.portWrite 0x28).leaveCommand = _
  have hstate : (s.portWrite 0x28).ctl.state = s.ctl.state := rfl
  unfold State.leaveCommand
  cases hctl : s.ctl.state <;> simp_all

/-! ### The bytes of COMMAND and SERVICE_CONTROL (Table 13-6) -/

theorem commandOfByte_unknown {v : Byte} (h : v = 0 ∨ (7 ≤ v.toNat ∧ v ≠ 0x5A)) : commandOfByte v = .unknownCommand v := by
  have hne : v.toNat ≠ 0x5A ∨ v = 0 := by
    rcases h with hzero | ⟨-, hreset⟩
    · exact .inr hzero
    · exact .inl fun heq => hreset (BitVec.eq_of_toNat_eq heq)
  have hrange : v.toNat = 0 ∨ 7 ≤ v.toNat := by
    rcases h with hzero | ⟨hlow, -⟩
    · exact .inl (by simp [hzero])
    · exact .inr hlow
  unfold commandOfByte
  split
  case h_8 => rfl
  all_goals
    rcases hne with hne | hne
    · omega
    · subst hne; contradiction

theorem writeCommand_serviceControl (before : List Byte) (v : Byte) : writeCommand 0x29 before v = some (serviceOfByte v) := rfl

theorem serviceOfByte_powerOn {v : Byte} (h : v.extractLsb' 0 2 = 1) : serviceOfByte v = .powerOn (v.extractLsb' 2 3) := by
  simp [serviceOfByte, h]

theorem serviceOfByte_powerOff {v : Byte} (h : v.extractLsb' 0 2 = 2) : serviceOfByte v = .powerOff (v.extractLsb' 2 3) := by
  simp [serviceOfByte, h]

theorem serviceOfByte_led {v : Byte} (h : v.extractLsb' 0 2 = 0 ∨ v.extractLsb' 0 2 = 3) :
    serviceOfByte v = .serviceLed (v.extractLsb' 2 3) := by
  rcases h with h | h <;> simp [serviceOfByte, h]

/-! ### The register map by index (Table 13-8, R178) -/

/-- The indexes that a write takes effect at. -/
theorem writeIgnoredAt_iff : ∀ index : BitVec 7, writeIgnoredAt index = true ↔
    ¬((0x20 ≤ index.toNat ∧ index.toNat ≤ 0x22) ∨ index.toNat = 0x28 ∨ index.toNat = 0x29 ∨
      (0x30 ≤ index.toNat ∧ index.toNat ≤ 0x34) ∨ (0x40 ≤ index.toNat ∧ index.toNat ≤ 0x4D)) := by
  decide +kernel

theorem writeCommand_of_ignored {index : BitVec 7} (before : List Byte) (v : Byte) (h : writeIgnoredAt index = true) :
    writeCommand index before v = some (.ignoredWrite index v) := by
  unfold writeIgnoredAt at h
  unfold writeCommand
  cases hreg : registerAt index with
  | none => rfl
  | some r => cases r <;> simp_all [classOf]

theorem writeCommand_configTile (before : List Byte) (v : Byte) :
    writeCommand 0x20 before v = if before.length < 4 then some (.configWrite .tile (before ++ [v])) else none := rfl

theorem writeCommand_configWall (before : List Byte) (v : Byte) :
    writeCommand 0x21 before v = if before.length < 5 then some (.configWrite .wall (before ++ [v])) else none := rfl

theorem writeCommand_irqEnable (before : List Byte) (v : Byte) :
    writeCommand 0x22 before v = if before.length = 0 then some (.irqEnableWrite v) else none := rfl

theorem writeCommand_stage {index : BitVec 7} (k : Fin 14) (before : List Byte) (v : Byte) (h : index.toNat = 0x40 + k.val) :
    writeCommand index before v = some (.stageWrite k before.length v) := by
  have hindex : index = indexOf (.stage k) := by
    apply BitVec.eq_of_toNat_eq
    have hk := k.isLt
    simp only [indexOf, BitVec.toNat_ofNat]
    omega
  rw [hindex]
  simp [writeCommand, Laws.Named.registerAt_stage]

/-- The indexes whose reads change something. -/
theorem readCommand_zero_of_not_mem : ∀ index : BitVec 7,
    index.toNat ∉ [0x05, 0x11, 0x12, 0x13, 0x14, 0x18, 0x19, 0x1A, 0x2A, 0x31, 0x34] → readCommand index 0 = none := by
  decide +kernel

/-- PAL_DATA and CURSOR_DATA apart, only the first data byte is a read (R177). -/
theorem readCommand_later : ∀ index : BitVec 7, index ≠ 0x31 → index ≠ 0x34 → ∀ n, 0 < n → readCommand index n = none := by
  have honly : ∀ index : BitVec 7, index ≠ 0x31 → index ≠ 0x34 →
      registerAt index ≠ some .palData ∧ registerAt index ≠ some .cursorData := by decide +kernel
  intro index hpal hcur n hn
  obtain ⟨hnotPal, hnotCur⟩ := honly index hpal hcur
  unfold readCommand
  split <;> simp_all <;> omega

/-! ### A configuration write (R179) -/

theorem tileSizeValid_iff (v : Half) : tileSizeValid v = true ↔ 64 ≤ v.toNat ∧ v.toNat ≤ 4096 ∧ v.toNat % 8 = 0 :=
  decide_eq_true_iff

theorem State.takeConfig_taken {reg : ConfigReg} {c : Configuration} {s : State} (h : s.ctl.state = .offline ∧ writeInRange c reg = true) :
    s.takeConfig reg (some c) = { s with cfg := c } :=
  if_pos h

theorem State.takeConfig_ignored {reg : ConfigReg} {c : Configuration} {s : State} (h : ¬(s.ctl.state = .offline ∧ writeInRange c reg = true)) :
    s.takeConfig reg (some c) = s.raiseWriteIgnored :=
  if_neg h

theorem Configuration.written_tile_short (c : Configuration) {bytes : List Byte} (h : bytes.length < 4) : c.written .tile bytes = none := by
  match bytes, h with
  | [], _ | [_], _ | [_, _], _ | [_, _, _], _ => rfl

theorem Configuration.written_wall_short (c : Configuration) {bytes : List Byte} (h : bytes.length < 5) : c.written .wall bytes = none := by
  match bytes, h with
  | [], _ | [_], _ | [_, _], _ | [_, _, _], _ | [_, _, _, _], _ => rfl

/-- The range of CONFIG_WALL's fields. -/
theorem writeInRange_wall_iff (c : Configuration) :
    writeInRange c .wall = true ↔ 10000 ≤ c.period.toNat ∧ c.period.toNat ≤ 40000 ∧ 1 ≤ c.lead.toNat ∧ c.lead.toNat ≤ 15 ∧
      2 ≤ c.silence.toNat ∧ c.silence.toNat ≤ 15 :=
  decide_eq_true_iff

/-- The range of CONFIG_TILE's fields. -/
theorem writeInRange_tile_iff (c : Configuration) :
    writeInRange c .tile = true ↔ (64 ≤ c.tileH.toNat ∧ c.tileH.toNat ≤ 4096 ∧ c.tileH.toNat % 8 = 0) ∧
      (64 ≤ c.tileW.toNat ∧ c.tileW.toNat ≤ 4096 ∧ c.tileW.toNat % 8 = 0) := by
  rw [writeInRange, Bool.and_eq_true, tileSizeValid_iff, tileSizeValid_iff, and_comm]

/-! ### The interrupt sources (R186, R187) -/

/-- The source of index `i` is enabled and pending. -/
def State.sourceOn (s : State) (i : Fin 5) : Bool :=
  match i with
  | 0 => s.events.enables.fault && s.faultPending
  | 1 => s.events.enables.wall && s.wallPending
  | 2 => s.events.enables.receipt && s.receiptPending
  | 3 => s.events.enables.service && s.servicePending
  | 4 => s.events.enables.frame && s.framePending

theorem State.irqAsserted_iff (s : State) : s.irqAsserted = true ↔ ∃ i, s.sourceOn i = true := by
  simp [State.irqAsserted, State.sourceOn, Fin.exists_fin_succ]
  grind

/-- The code of the first of five sources that is on, 0 when none is (R187). -/
def firstOn (on : Fin 5 → Bool) : Byte :=
  if on 0 then 1 else if on 1 then 2 else if on 2 then 3 else if on 3 then 4 else if on 4 then 5 else 0

theorem firstOn_eq_zero_iff : ∀ on : Fin 5 → Bool, firstOn on = 0 ↔ ∀ i, on i = false := by
  decide +kernel

theorem firstOn_eq_succ_iff : ∀ (on : Fin 5 → Bool) (i : Fin 5),
    (firstOn on).toNat = i.val + 1 ↔ on i = true ∧ ∀ j, j < i → on j = false := by
  decide +kernel

theorem State.irqIdent_eq (s : State) : s.irqIdent = firstOn s.sourceOn := rfl

theorem State.receiptPending_eq (s : State) : s.receiptPending = (decide (s.sub.receipts ≠ []) || s.sub.refused) := by
  unfold State.receiptPending
  cases s.sub.receipts <;> rfl

end Sys2Proof.Machine

namespace Sys2Proof.Proofs

open Sys2Proof Sys2Proof.Machine

/-- Settles O31: each refused command is `raiseCommandRefused` after its port write; the bytes by the register map. -/
theorem commandBytesAndRefusals : Obligations.CommandBytesAndRefusals := by
  refine ⟨fun c s hrefused => ?_, fun before => ⟨rfl, rfl, rfl, rfl, rfl, rfl, rfl, fun v hv => ?_⟩⟩
  · rw [exec_eq_next]
    congr 1
    rcases hrefused with ⟨rfl | rfl, hstate⟩ | ⟨rfl, hstate⟩ | ⟨rfl, hstate⟩ | ⟨rfl, hlistening, hjoining, hmember⟩ | ⟨value, rfl⟩
    · exact effect_join_of_not_offline hstate
    · exact effect_loopback_of_not_offline hstate
    · exact effect_unloop_of_not_loopback hstate
    · exact effect_clearFault_of_not_fault hstate
    · exact effect_leave_of_not_leaving hlistening hjoining hmember
    · rfl
  · exact congrArg some (commandOfByte_unknown hv)

/-- Settles O49: the map of the 128 indexes, and one equation for each register of a count. -/
theorem registerMapNamesCommands : Obligations.RegisterMapNamesCommands := by
  refine ⟨fun index before v => ⟨writeIgnoredAt_iff index, writeCommand_of_ignored before v, fun h => ?_, fun h => ?_, fun h => ?_,
    fun h => ?_, fun h => ?_, fun h => ?_, fun h => ?_, fun h => ?_, fun h => ?_, rfl, rfl, rfl, rfl, rfl,
    fun k h => writeCommand_stage k before v h⟩,
    fun index n => ⟨rfl, rfl, rfl, rfl, rfl, rfl, rfl, rfl, rfl, rfl, rfl, fun hn hpal hcur => readCommand_later index hpal hcur n hn,
      fun h => ?_⟩⟩
  · rw [writeCommand_configTile, if_pos h]
  · rw [writeCommand_configTile, if_neg (by omega)]
  · rw [writeCommand_configWall, if_pos h]
  · rw [writeCommand_configWall, if_neg (by omega)]
  · rw [writeCommand_irqEnable, if_pos (by rw [h]; rfl)]
  · rw [writeCommand_irqEnable, if_neg (by rwa [List.length_eq_zero_iff])]
  · rw [writeCommand_serviceControl, serviceOfByte_powerOn h]
  · rw [writeCommand_serviceControl, serviceOfByte_powerOff h]
  · rw [writeCommand_serviceControl, serviceOfByte_led h]
  · rcases Nat.eq_zero_or_pos n with rfl | hn
    · exact readCommand_zero_of_not_mem index h
    · exact readCommand_later index (by rintro rfl; simp at h) (by rintro rfl; simp at h) n hn

/-- Settles O46: the written configuration is judged by its ranges when the last byte has come. -/
theorem configWriteJudged : Obligations.ConfigWriteJudged := by
  intro w0 w1 h0 h1 p0 p1 l sl a s sizeOk tileOk wallOk
  have htile : writeInRange { s.cfg with tileW := w1 ++ w0, tileH := h1 ++ h0 } .tile = true ↔ tileOk := writeInRange_tile_iff _
  have hwall : writeInRange { s.cfg with period := p1 ++ p0, lead := l, silence := sl, autoLeave := a.getLsbD 0 } .wall = true ↔
      wallOk := writeInRange_wall_iff _
  refine ⟨fun hoff hok => ?_, fun hbad => ?_, fun hoff hok => ?_, fun hbad => ?_, fun bytes => ⟨fun hlen => ?_, fun hlen => ?_⟩⟩
  · exact congrArg Host.Outcome.next (State.takeConfig_taken ⟨hoff, htile.2 hok⟩)
  · exact congrArg Host.Outcome.next (State.takeConfig_ignored fun h => hbad.elim (· h.1) (· (htile.1 h.2)))
  · exact congrArg Host.Outcome.next (State.takeConfig_taken ⟨hoff, hwall.2 hok⟩)
  · exact congrArg Host.Outcome.next (State.takeConfig_ignored fun h => hbad.elim (· h.1) (· (hwall.1 h.2)))
  · simp only [exec, execConfigWrite, Configuration.written_tile_short _ hlen]; rfl
  · simp only [exec, execConfigWrite, Configuration.written_wall_short _ hlen]; rfl

/-- Settles O47: the five sources in their order of priority. -/
theorem interruptEnableAndIdent : Obligations.InterruptEnableAndIdent := by
  constructor
  · intro value s
    refine ⟨_, rfl, rfl, rfl, ?_⟩
    rw [State.irqAsserted_iff]
    simp [Fin.exists_fin_succ, State.sourceOn, enablesOf, State.portWriteAt, State.faultPending, State.wallPending, State.receiptPending,
      State.servicePending, State.framePending]
  · intro s on
    have hon : on = s.sourceOn := by
      funext i
      match i with
      | 0 | 1 | 3 | 4 => rfl
      | 2 => exact congrArg (s.events.enables.receipt && ·) s.receiptPending_eq.symm
    rw [hon, State.irqIdent_eq]
    exact ⟨firstOn_eq_succ_iff _, firstOn_eq_zero_iff _, s.irqAsserted_iff⟩

end Sys2Proof.Proofs

/-! SUPPORT. The power state of the panel by its cases, and what the service controller makes of its commands and of the supply. -/

namespace Sys2Proof.Machine

@[simp] theorem PowerState.beq_eq (p q : PowerState) : (p == q) = decide (p = q) := rfl

@[simp] theorem PowerState.bne_eq (p q : PowerState) : (p != q) = decide (p ≠ q) := by
  simp [bne]

/-! ### The judgement of the power condition, by power state (R165 to R168) -/

theorem judgePower_off_holds {v : Service} (hp : v.power = .off) (h : conditionHolds v = true) : judgePower v = enterRising v := by
  simp [judgePower, hp, h]

theorem judgePower_off_fails {v : Service} (hp : v.power = .off) (h : conditionHolds v = false) : judgePower v = v := by
  simp [judgePower, hp, h]

theorem judgePower_running_holds {v : Service} (hp : v.power = .rising ∨ v.power = .on) (h : conditionHolds v = true) :
    judgePower v = v := by
  rcases hp with hp | hp <;> simp [judgePower, hp, h]

theorem judgePower_running_fails {v : Service} (hp : v.power = .rising ∨ v.power = .on) (h : conditionHolds v = false) :
    judgePower v = enterFalling v := by
  rcases hp with hp | hp <;> simp [judgePower, hp, h]

theorem judgePower_falling_or_fault {v : Service} (hp : v.power = .falling ∨ v.power = .fault) : judgePower v = v := by
  rcases hp with hp | hp <;> simp [judgePower, hp]

theorem enterOff_holds {v : Service} (h : conditionHolds v = true) : enterOff v = enterRising v := if_pos h

theorem enterOff_fails {v : Service} (h : conditionHolds v = false) : enterOff v = { v with power := .off, powerTimer := none } :=
  if_neg (by simp [h])

theorem enterFalling_of_pgood {v : Service} (h : v.pgood = true) :
    enterFalling v = { v with power := .falling, powerTimer := some 0 } := if_pos h

theorem enterFalling_of_no_pgood {v : Service} (hp : v.pgood = false) (h : conditionHolds v = false) :
    enterFalling v = { v with power := .off, powerTimer := none } := by
  rw [enterFalling, if_neg (by simp [hp]), enterOff_fails h]

/-- The judgement moves the power state and its timer alone. -/
theorem judgePower_eq (v : Service) :
    judgePower v = { v with power := (judgePower v).power, powerTimer := (judgePower v).powerTimer } := by
  unfold judgePower enterFalling enterOff enterRising
  repeat' split
  all_goals rfl

/-- A completion touches the pending command and the outcome alone. -/
theorem completeCommand_eq (v : Service) :
    completeCommand v = { v with command := (completeCommand v).command, outcome := (completeCommand v).outcome } := by
  unfold completeCommand
  split <;> rfl

theorem completeCommand_of_none {v : Service} (h : reachedOutcome v.command v.power = none) : completeCommand v = v := by
  simp [completeCommand, h]

theorem completeCommand_of_reached {v : Service} {o : ServiceOutcome} (h : reachedOutcome v.command v.power = some o) :
    completeCommand v = { v with command := .none, outcome := o } := by
  simp [completeCommand, h]

/-- What the service controller leaves as it was after an event: all but its own state, the blanking, and its events. -/
theorem State.servicePower_eq (v : Service) (s : State) :
    s.servicePower v =
      { s with
        svc := (s.servicePower v).svc, comp.showing := (s.servicePower v).comp.showing
        events.service := (s.servicePower v).events.service } := rfl

theorem State.servicePower_of_none {v : Service} (s : State) (h : reachedOutcome v.command v.power = none) :
    s.servicePower v =
      { s with
        svc := v, comp.showing := s.comp.showing && v.power == .on
        events.service.powerFault := s.events.service.powerFault || (v.power == .fault && s.svc.power != .fault) } := by
  simp [State.servicePower, h, completeCommand_of_none]

theorem State.servicePower_of_reached {v : Service} {o : ServiceOutcome} (s : State) (h : reachedOutcome v.command v.power = some o) :
    s.servicePower v =
      { s with
        svc := { v with command := .none, outcome := o }, comp.showing := s.comp.showing && v.power == .on
        events.service.powerFault := s.events.service.powerFault || (v.power == .fault && s.svc.power != .fault)
        events.service.serviceDone := true } := by
  simp [State.servicePower, h, completeCommand_of_reached h]

/-- Under the law no outcome waits to be reported. -/
theorem Service.Lawful.reachedOutcome {v : Service} (h : v.Lawful) : reachedOutcome v.command v.power = none := by
  by_cases hc : v.command = .none
  · rw [hc]; rfl
  · rcases h.pending hc with hp | hp <;> rw [hp] <;> cases v.command <;> rfl

/-- PNL_PWR_EN is off outside RISING and ON. -/
theorem pwrEn_of_not_running {v : Service} (h : v.power ≠ .rising) (h' : v.power ≠ .on) : pwrEn v = false := by
  simp [pwrEn, h, h']

/-! ### The supply and the power timer (R164, R166, R167, R168) -/

theorem effect_powerGood_rising {s : State} (hp : s.svc.power = .rising) :
    effect .powerGood s = s.servicePower { s.svc with pgood := true, power := .on, powerTimer := none } := by
  simp [effect, exec, execPowerGood, hp]

theorem effect_powerGood_not_rising {s : State} (hlaw : s.svc.Lawful) (hp : s.svc.power ≠ .rising) :
    effect .powerGood s = { s with svc.pgood := true, comp.showing := s.comp.showing && s.svc.power == .on } := by
  have h : effect .powerGood s = s.servicePower { s.svc with pgood := true } := by simp [effect, exec, execPowerGood, hp]
  rw [h, State.servicePower_of_none (v := { s.svc with pgood := true }) s hlaw.reachedOutcome]
  cases s.svc.power <;> simp

theorem effect_powerGoodLost_on {s : State} (hp : s.svc.power = .on) :
    effect .powerGoodLost s = s.servicePower (enterPowerFault { s.svc with pgood := false }) := by
  simp [effect, exec, execPowerGoodLost, hp]

theorem effect_powerGoodLost_falling {s : State} (hp : s.svc.power = .falling) :
    effect .powerGoodLost s = s.servicePower (enterOff { s.svc with pgood := false }) := by
  simp [effect, exec, execPowerGoodLost, hp]

theorem effect_powerGoodLost_other {s : State} (hp : s.svc.power = .off ∨ s.svc.power = .rising ∨ s.svc.power = .fault) :
    effect .powerGoodLost s = s.servicePower { s.svc with pgood := false } := by
  rcases hp with hp | hp | hp <;> simp [effect, exec, execPowerGoodLost, hp]

theorem effect_powerTimerExpiry_running {s : State} (hp : s.svc.power = .rising ∨ s.svc.power = .falling) :
    effect .powerTimerExpiry s = s.servicePower (enterPowerFault s.svc) := by
  rcases hp with hp | hp <;> simp [effect, exec, execPowerTimerExpiry, hp]

theorem effect_powerTimerExpiry_idle {s : State} (hrising : s.svc.power ≠ .rising) (hfalling : s.svc.power ≠ .falling) :
    effect .powerTimerExpiry s = s := by
  cases hp : s.svc.power <;> simp_all [effect, exec, execPowerTimerExpiry]

/-- What an event of the supply or of the power timer leaves as it was. -/
def State.SupplyMoved (s t : State) : Prop :=
  t = { s with svc := t.svc, comp.showing := t.comp.showing, events.service := t.events.service } ∧
    t.svc.presence = s.svc.presence ∧ t.svc.latch = s.svc.latch ∧ t.svc.button = s.svc.button ∧ t.svc.led = s.svc.led

theorem State.SupplyMoved.refl (s : State) : s.SupplyMoved s := ⟨rfl, rfl, rfl, rfl, rfl⟩

/-- The event moved only the power state, its timer, power good and the pending command. -/
theorem State.servicePower_supplyMoved {v : Service} {s : State}
    (h : v.presence = s.svc.presence ∧ v.latch = s.svc.latch ∧ v.button = s.svc.button ∧ v.led = s.svc.led) :
    s.SupplyMoved (s.servicePower v) := by
  refine ⟨rfl, ?_⟩
  change (completeCommand v).presence = _ ∧ (completeCommand v).latch = _ ∧ (completeCommand v).button = _ ∧ (completeCommand v).led = _
  rw [completeCommand_eq]
  exact h

theorem State.powerGood_supplyMoved (s : State) : s.SupplyMoved (effect .powerGood s) := by
  refine State.servicePower_supplyMoved ?_
  split <;> exact ⟨rfl, rfl, rfl, rfl⟩

theorem State.powerGoodLost_supplyMoved (s : State) : s.SupplyMoved (effect .powerGoodLost s) := by
  refine State.servicePower_supplyMoved ?_
  unfold enterOff
  repeat' split
  all_goals exact ⟨rfl, rfl, rfl, rfl⟩

theorem State.powerTimerExpiry_supplyMoved (s : State) : s.SupplyMoved (effect .powerTimerExpiry s) := by
  by_cases hp : s.svc.power = .rising ∨ s.svc.power = .falling
  · rw [effect_powerTimerExpiry_running hp]
    exact State.servicePower_supplyMoved ⟨rfl, rfl, rfl, rfl⟩
  · rw [effect_powerTimerExpiry_idle (fun h => hp (.inl h)) fun h => hp (.inr h)]
    exact .refl s

/-- The level of power good is the one the edge brings. -/
theorem effect_powerGood_pgood (s : State) : (effect .powerGood s).svc.pgood = true := by
  change (completeCommand _).pgood = true
  rw [completeCommand_eq]
  split <;> rfl

theorem effect_powerGoodLost_pgood (s : State) : (effect .powerGoodLost s).svc.pgood = false := by
  change (completeCommand _).pgood = false
  rw [completeCommand_eq]
  unfold enterOff
  repeat' split
  all_goals rfl

end Sys2Proof.Machine

namespace Sys2Proof.Proofs

open Sys2Proof Sys2Proof.Machine

/-- Settles O53, by the power state before the event. -/
theorem powerSupplyEvents : Obligations.PowerSupplyEvents := by
  intro s hinv
  have hlaw := (panelInv_iff s).1 hinv
  have hcond := conditionHolds_iff { s.svc with pgood := false }
  refine ⟨effect .powerGood s, effect .powerGoodLost s, effect .powerTimerExpiry s, rfl, rfl, rfl, effect_powerGood_pgood s,
    effect_powerGoodLost_pgood s, fun hp => ?_, effect_powerGood_not_rising hlaw, fun hp => ?_, fun hp hholds => ?_, fun hp hfails => ?_,
    fun hp => ?_, fun hp => ?_, effect_powerTimerExpiry_idle, ?_⟩
  case refine_1 =>
    have hon := hlaw.condition (.inl hp)
    rw [effect_powerGood_rising hp]
    cases hc : s.svc.command with
    | none => simp [State.servicePower, completeCommand, hc, reachedOutcome]
    | powerOn => simp [State.servicePower, completeCommand, hc, reachedOutcome]
    | powerOff => simp [hlaw.offRequest hc] at hon
  case refine_2 =>
    have hidle : s.svc.command = .none := by
      by_contra hc
      rcases hlaw.pending hc with h | h <;> simp [hp] at h
    rw [effect_powerGoodLost_on hp, State.servicePower_of_none _ (by simp [enterPowerFault, hidle, reachedOutcome])]
    simp [enterPowerFault, hp, pwrEn]
  case refine_3 =>
    rw [effect_powerGoodLost_falling hp, enterOff_holds (hcond.2 hholds),
      State.servicePower_of_none _ (by cases hc : s.svc.command <;> simp [enterRising, reachedOutcome])]
    simp [enterRising, pwrEn, conditionHolds, hholds]
  case refine_4 =>
    have hlost : conditionHolds { s.svc with pgood := false } = false := Bool.eq_false_iff.2 fun h => hfails (hcond.1 h)
    rw [effect_powerGoodLost_falling hp, enterOff_fails hlost]
    cases hc : s.svc.command <;> simp [State.servicePower, completeCommand, reachedOutcome]
  case refine_5 =>
    rw [effect_powerGoodLost_other hp, State.servicePower_of_none (v := { s.svc with pgood := false }) s hlaw.reachedOutcome]
    rcases hp with hp | hp | hp <;> simp [hp]
  case refine_6 =>
    rw [effect_powerTimerExpiry_running hp]
    have hnot : s.svc.power ≠ .fault := by rcases hp with hp | hp <;> simp [hp]
    cases hc : s.svc.command <;>
      simp [State.servicePower, completeCommand, enterPowerFault, reachedOutcome, hc, pwrEn, hnot]
  case refine_7 =>
    rintro t (rfl | rfl | rfl)
    · exact s.powerGood_supplyMoved
    · exact s.powerGoodLost_supplyMoved
    · exact s.powerTimerExpiry_supplyMoved

end Sys2Proof.Proofs

/-! SUPPORT. The service commands and the panel inputs, by the power state (R163, R170 to R174). -/

namespace Sys2Proof.Machine

/-! ### Service commands (R170 to R173) -/

/-- The LED field touches the LED, its blink and the follow flag alone. -/
@[simp] theorem applyLed_keeps (led : BitVec 3) (v : Service) :
    (applyLed led v).presence = v.presence ∧ (applyLed led v).latch = v.latch ∧ (applyLed led v).button = v.button ∧
      (applyLed led v).pgood = v.pgood ∧ (applyLed led v).request = v.request ∧ (applyLed led v).power = v.power ∧
      (applyLed led v).powerTimer = v.powerTimer ∧ (applyLed led v).command = v.command ∧ (applyLed led v).outcome = v.outcome := by
  have h : LedOnly v (applyLed led v) := applyLed_ledOnly led v
  unfold LedOnly at h
  rw [h]
  simp

/-- The controller of which a POWER_ON judges the power condition. -/
def asked (led : BitVec 3) (v : Service) : Service := { applyLed led v with request := true, command := .powerOn }

/-- The controller of which a POWER_OFF judges the power condition. -/
def askedOff (led : BitVec 3) (v : Service) : Service := { applyLed led v with request := false, command := .powerOff }

theorem conditionHolds_asked (led : BitVec 3) (v : Service) :
    conditionHolds (asked led v) = (v.presence.value && v.latch.value) := by
  simp [conditionHolds, asked]

theorem conditionHolds_askedOff (led : BitVec 3) (v : Service) : conditionHolds (askedOff led v) = false := by
  simp [conditionHolds, askedOff]

theorem effect_powerOn_accepted {s : State} (led : BitVec 3) (h : s.svc.command = .none) :
    effect (.powerOn led) s = (s.portWrite 0x29).servicePower (judgePower (asked led s.svc)) :=
  if_pos h

theorem effect_powerOff_accepted {s : State} (led : BitVec 3) (h : s.svc.command = .none) :
    effect (.powerOff led) s =
      (s.portWrite 0x29).servicePower
        (if s.svc.power = .fault then enterOff (askedOff led s.svc) else judgePower (askedOff led s.svc)) := by
  have hpower : (askedOff led s.svc).power = s.svc.power := by simp [askedOff]
  rw [← hpower]
  exact if_pos h

/-- The controller after a service command differs from the one before in the request, the power state and its timer, the LED and the
command. -/
theorem judgePower_asked_inputs (led : BitVec 3) (v : Service) :
    (judgePower (asked led v)).presence = v.presence ∧ (judgePower (asked led v)).latch = v.latch ∧
      (judgePower (asked led v)).button = v.button ∧ (judgePower (asked led v)).pgood = v.pgood ∧
      (judgePower (asked led v)).request = true := by
  rw [judgePower_eq]
  simp [asked]

/-- What a POWER_OFF makes of the power state where FALLING is not entered: OFF at once (R166, R172). -/
theorem judged_askedOff_to_off {v : Service} (led : BitVec 3) (hlaw : v.Lawful)
    (hp : v.power = .off ∨ (v.power = .rising ∧ v.pgood = false) ∨ v.power = .fault ∨ (v.power = .on ∧ v.pgood = false)) :
    (if v.power = .fault then enterOff (askedOff led v) else judgePower (askedOff led v)) =
      { askedOff led v with power := .off, powerTimer := none } := by
  have hpower : (askedOff led v).power = v.power := by simp [askedOff]
  have hpgood : (askedOff led v).pgood = v.pgood := by simp [askedOff]
  have hcond := conditionHolds_askedOff led v
  rcases hp with hp | ⟨hp, hgood⟩ | hp | ⟨hp, hgood⟩
  · have htimer : v.powerTimer = none := by
      rw [← Option.not_isSome_iff_eq_none, hlaw.timer]
      simp [hp]
    rw [if_neg (by simp [hp]), judgePower_off_fails (hpower.trans hp) hcond]
    simp [askedOff, hp, htimer]
  · rw [if_neg (by simp [hp]), judgePower_running_fails (.inl (hpower.trans hp)) hcond,
      enterFalling_of_no_pgood (hpgood.trans hgood) hcond]
  · rw [if_pos hp, enterOff_fails hcond]
  · rw [if_neg (by simp [hp]), judgePower_running_fails (.inr (hpower.trans hp)) hcond,
      enterFalling_of_no_pgood (hpgood.trans hgood) hcond]

theorem judged_askedOff_to_falling {v : Service} (led : BitVec 3) (hp : v.power = .on ∨ v.power = .rising) (hgood : v.pgood = true) :
    (if v.power = .fault then enterOff (askedOff led v) else judgePower (askedOff led v)) =
      { askedOff led v with power := .falling, powerTimer := some 0 } := by
  have hnot : v.power ≠ .fault := by rcases hp with hp | hp <;> simp [hp]
  have hrunning : (askedOff led v).power = .rising ∨ (askedOff led v).power = .on := by simpa [askedOff] using hp.symm
  rw [if_neg hnot, judgePower_running_fails hrunning (conditionHolds_askedOff led v), enterFalling_of_pgood (by simpa [askedOff] using hgood)]

theorem judged_askedOff_in_falling {v : Service} (led : BitVec 3) (hp : v.power = .falling) :
    (if v.power = .fault then enterOff (askedOff led v) else judgePower (askedOff led v)) = askedOff led v := by
  rw [if_neg (by simp [hp]), judgePower_falling_or_fault (.inl (by simpa [askedOff] using hp))]

/-- The three outcomes of a POWER_OFF. -/
theorem Service.powerOff_cases (v : Service) :
    (v.power = .off ∨ (v.power = .rising ∧ v.pgood = false) ∨ v.power = .fault ∨ (v.power = .on ∧ v.pgood = false)) ∨
      ((v.power = .on ∨ v.power = .rising) ∧ v.pgood = true) ∨ v.power = .falling := by
  cases v.power <;> cases v.pgood <;> simp

/-! ### The LED field (R170, R173) -/

theorem ledField_eq_some_iff (led : BitVec 3) (l : LedState) :
    ledField led = some l ↔ (led = 1 ∧ l = .off) ∨ (led = 2 ∧ l = .on) ∨ (led = 3 ∧ l = .blink) := by
  cases l <;> revert led <;> decide

theorem ledField_eq_none_iff : ∀ led : BitVec 3, ledField led = none ↔ led = 0 ∨ 4 ≤ led.toNat := by decide

theorem applyLed_of_some {led : BitVec 3} {l : LedState} (v : Service) (h : ledField led = some l) :
    applyLed led v = { setLed l v with follow := false } := by
  simp [applyLed, h]

@[simp] theorem setLed_led (l : LedState) (v : Service) : (setLed l v).led = l := by
  unfold setLed
  split
  case isTrue h => exact h.1.symm
  case isFalse => rfl

/-- The line after the LED state is set: OFF low, ON high, and a BLINK entered anew high (R173). -/
theorem ledLine_setLed (l : LedState) (v : Service) :
    (l = .off → ledLine (setLed l v) = false) ∧ (l = .on → ledLine (setLed l v) = true) ∧
      (l = .blink → v.led ≠ .blink → ledLine (setLed l v) = true) := by
  refine ⟨?_, ?_, ?_⟩ <;> rintro rfl
  · rfl
  · rfl
  · intro hne
    rw [setLed, if_pos ⟨rfl, hne⟩]
    rfl

theorem effect_serviceLed_none {led : BitVec 3} (s : State) (h : ledField led = none) : effect (.serviceLed led) s = s.portWrite 0x29 :=
  if_pos (by simp [h])

theorem effect_serviceLed_accepted {led : BitVec 3} {s : State} (hfield : ledField led ≠ none) (h : s.svc.command = .none) :
    effect (.serviceLed led) s = (s.portWrite 0x29).acceptLed led :=
  (if_neg (by simpa using hfield)).trans (if_pos h)

theorem effect_serviceLed_busy {led : BitVec 3} {s : State} (hfield : ledField led ≠ none) (h : s.svc.command ≠ .none) :
    effect (.serviceLed led) s = (s.portWrite 0x29).serviceBusy :=
  (if_neg (by simpa using hfield)).trans (if_neg h)

/-- A judgement and a completion leave the LED and the follow flag as the field set them. -/
theorem State.servicePower_led (v : Service) (s : State) : (s.servicePower v).svc.led = v.led ∧ (s.servicePower v).svc.follow = v.follow := by
  simp only [State.servicePower]
  rw [completeCommand_eq]
  exact ⟨rfl, rfl⟩

theorem judgePower_led (v : Service) : (judgePower v).led = v.led ∧ (judgePower v).follow = v.follow := by
  rw [judgePower_eq]
  exact ⟨rfl, rfl⟩

theorem enterOff_led (v : Service) : (enterOff v).led = v.led ∧ (enterOff v).follow = v.follow := by
  unfold enterOff
  split <;> exact ⟨rfl, rfl⟩

theorem effect_powerOn_led {led : BitVec 3} {l : LedState} {s : State} (hfield : ledField led = some l) (h : s.svc.command = .none) :
    (effect (.powerOn led) s).svc.led = l ∧ (effect (.powerOn led) s).svc.follow = false := by
  rw [effect_powerOn_accepted led h]
  simp [State.servicePower_led, judgePower_led, asked, applyLed_of_some _ hfield]

theorem effect_powerOff_led {led : BitVec 3} {l : LedState} {s : State} (hfield : ledField led = some l) (h : s.svc.command = .none) :
    (effect (.powerOff led) s).svc.led = l ∧ (effect (.powerOff led) s).svc.follow = false := by
  rw [effect_powerOff_accepted led h]
  split <;> simp [State.servicePower_led, judgePower_led, enterOff_led, askedOff, applyLed_of_some _ hfield]

end Sys2Proof.Machine

namespace Sys2Proof.Proofs

open Sys2Proof Sys2Proof.Machine

/-- Settles O52: the judgement after a POWER_ON and a POWER_OFF by power state, and the LED field. -/
theorem serviceCommands : Obligations.ServiceCommands := by
  refine ⟨⟨fun led s h => ?powerOn, fun led s hinv h => ?powerOff⟩,
    fun led s => ⟨fun l hl h => ?field, fun hnone => ?noChange, fun hbusy => ⟨?_, ?_, fun hl => ?_⟩⟩⟩
  case powerOn =>
    have hcond := conditionHolds_asked led s.svc
    have hpower : (asked led s.svc).power = s.svc.power := by simp [asked]
    have hkeeps := judgePower_asked_inputs led s.svc
    refine ⟨effect (.powerOn led) s, rfl, ?_⟩
    rw [effect_powerOn_accepted led h]
    refine ⟨?_, fun hp hpres hlatch => ?_, fun hp hno => ?_, fun hp hpres hlatch => ?_, fun hp => ?_, fun hp => ?_,
      fun hp hpres hlatch => ?_, rfl, ?_⟩
    · simp only [State.servicePower]
      rw [completeCommand_eq]
      exact hkeeps.2.2.2.2
    · rw [judgePower_off_holds (hpower.trans hp) (by simp [hcond, hpres, hlatch])]
      rw [State.servicePower_of_none _ rfl]
      simp [enterRising, asked, pwrEn, conditionHolds, hpres, hlatch]
    · rw [judgePower_off_fails (hpower.trans hp) (by rw [hcond]; grind)]
      rw [State.servicePower_of_reached (o := .doneHeld) _ (by rw [hpower, hp]; rfl)]
      simp [asked, hp]
    · rw [judgePower_running_holds (.inr (hpower.trans hp)) (by simp [hcond, hpres, hlatch])]
      rw [State.servicePower_of_reached (o := .doneOn) _ (by rw [hpower, hp]; rfl)]
      simp [asked, hp]
    · rw [judgePower_falling_or_fault (.inl (hpower.trans hp))]
      rw [State.servicePower_of_none _ (by rw [hpower, hp]; rfl)]
      simp [asked, hp]
    · rw [judgePower_falling_or_fault (.inr (hpower.trans hp))]
      rw [State.servicePower_of_reached (o := .doneFault) _ (by rw [hpower, hp]; rfl)]
      simp [asked, hp]
    · rw [judgePower_running_holds (.inl (hpower.trans hp)) (by simp [hcond, hpres, hlatch])]
      rw [State.servicePower_of_none _ (by rw [hpower, hp]; rfl)]
      simp [asked, hp]
    · simp only [State.servicePower]
      rw [completeCommand_eq]
      exact ⟨hkeeps.1, hkeeps.2.1, hkeeps.2.2.1, hkeeps.2.2.2.1⟩
  case powerOff =>
    have hlaw := (panelInv_iff s).1 hinv
    have hinputs : (askedOff led s.svc).presence = s.svc.presence ∧ (askedOff led s.svc).latch = s.svc.latch ∧
        (askedOff led s.svc).button = s.svc.button ∧ (askedOff led s.svc).pgood = s.svc.pgood ∧ (askedOff led s.svc).request = false ∧
        (askedOff led s.svc).command = .powerOff ∧ (askedOff led s.svc).outcome = s.svc.outcome ∧
        (askedOff led s.svc).powerTimer = s.svc.powerTimer ∧ (askedOff led s.svc).power = s.svc.power := by simp [askedOff]
    refine ⟨effect (.powerOff led) s, rfl, ?_⟩
    rw [effect_powerOff_accepted led h]
    rcases s.svc.powerOff_cases with hp | ⟨hp, hgood⟩ | hp
    · rw [judged_askedOff_to_off led hlaw hp, State.servicePower_of_reached (o := .doneOff) _ rfl]
      simp [hinputs, pwrEn]
      grind
    · rw [judged_askedOff_to_falling led hp hgood, State.servicePower_of_none _ rfl]
      simp [hinputs, pwrEn]
      grind
    · rw [judged_askedOff_in_falling led hp, State.servicePower_of_none _ (by simp [askedOff, hp, reachedOutcome])]
      simp [hinputs, pwrEn]
      grind
  case field =>
    have hfield := (ledField_eq_some_iff led l).2 hl
    refine ⟨⟨effect (.serviceLed led) s, rfl, ?_⟩, ⟨_, rfl, effect_powerOn_led hfield h⟩, _, rfl, effect_powerOff_led hfield h⟩
    have hline := ledLine_setLed l s.svc
    rw [effect_serviceLed_accepted (by simp [hfield]) h]
    have hset : (s.portWrite 0x29).acceptLed led =
        { s.portWrite 0x29 with
          svc := { setLed l s.svc with follow := false, outcome := .doneLed }, events.service.serviceDone := true } := by
      rw [State.acceptLed, applyLed_of_some _ hfield]
      rfl
    have hpower : (setLed l s.svc).power = s.svc.power ∧ (setLed l s.svc).command = s.svc.command := by
      rw [setLed_ledOnly l s.svc]
      exact ⟨rfl, rfl⟩
    rw [hset]
    exact ⟨setLed_led l s.svc, rfl, rfl, rfl, hpower.1, hpower.2.trans h, hline.2.2, hline.2.1, hline.1⟩
  case noChange => exact congrArg Host.Outcome.next (effect_serviceLed_none s ((ledField_eq_none_iff led).2 hnone))
  · exact congrArg Host.Outcome.next (if_neg hbusy)
  · exact congrArg Host.Outcome.next (if_neg hbusy)
  · exact congrArg Host.Outcome.next (effect_serviceLed_busy (by rw [ne_eq, ledField_eq_none_iff]; rcases hl with rfl | rfl | rfl <;> decide) hbusy)

end Sys2Proof.Proofs

/-! SUPPORT. The panel inputs: the raw lines, the end of a debounce by power state, and the button (R163, R174). -/

namespace Sys2Proof.Machine

/-! ### The raw lines and their debouncing (R163) -/

@[simp] theorem Service.input_setInput (p : PanelInput) (i : DebouncedInput) (v : Service) : (v.setInput p i).input p = i := by
  cases p <;> rfl

/-- A new input leaves the rest of the controller as it was. -/
@[simp] theorem Service.setInput_keeps (p : PanelInput) (i : DebouncedInput) (v : Service) :
    (v.setInput p i).pgood = v.pgood ∧ (v.setInput p i).request = v.request ∧ (v.setInput p i).power = v.power ∧
      (v.setInput p i).powerTimer = v.powerTimer ∧ (v.setInput p i).command = v.command ∧ (v.setInput p i).outcome = v.outcome := by
  cases p <;> exact ⟨rfl, rfl, rfl, rfl, rfl, rfl⟩

theorem DebouncedInput.lineTo_same (i : DebouncedInput) : i.lineTo i.raw = i := if_pos rfl

theorem DebouncedInput.lineTo_other {level : Bool} {i : DebouncedInput} (h : level ≠ i.raw) :
    i.lineTo level = ⟨level, i.value, if level = i.value then none else some 0⟩ :=
  if_neg h

theorem Service.setInput_self (p : PanelInput) (v : Service) : v.setInput p (v.input p) = v := by
  cases p <;> rfl

/-- PRESENCE_CHANGED or LATCH_CHANGED. -/
def State.inputChanged (p : PanelInput) (s : State) : State :=
  match p with
  | .presence => { s with events.service.presenceChanged := true }
  | .latch => { s with events.service.latchChanged := true }
  | .button => s

/-- The controller with the debounced value of an input settled on the raw level. -/
def Service.settled (p : PanelInput) (v : Service) : Service := v.setInput p (v.input p).settle

theorem effect_debounceExpiry {p : PanelInput} {s : State} (h : (s.svc.input p).timer.isSome = true) :
    effect (.debounceExpiry p) s = State.debounced p { s with svc := s.svc.settled p } :=
  if_pos h

theorem State.debounced_power {p : PanelInput} (hp : p ≠ .button) (s : State) :
    s.debounced p = (s.inputChanged p).servicePower (judgePower s.svc) := by
  cases p
  case presence => rfl
  case latch => rfl
  case button => exact absurd rfl hp

/-- In RISING and ON a presence or a latch settles on the level that breaks the power condition (R163, R165). -/
theorem conditionHolds_settled_running {v : Service} {p : PanelInput} (hlaw : v.Lawful) (hp : p ≠ .button)
    (htimer : (v.input p).timer.isSome = true) (hpower : v.power = .rising ∨ v.power = .on) : conditionHolds (v.settled p) = false := by
  obtain ⟨-, hpresence, hlatch⟩ := hlaw.condition hpower
  have hne : (v.input p).raw ≠ (v.input p).value := (hlaw.inputs.input p).1 htimer
  cases p
  case presence => simp_all [conditionHolds, Service.settled, Service.setInput, DebouncedInput.settle, Service.input]
  case latch => simp_all [conditionHolds, Service.settled, Service.setInput, DebouncedInput.settle, Service.input]
  case button => exact absurd rfl hp

@[simp] theorem Service.settled_keeps (p : PanelInput) (v : Service) :
    (v.settled p).pgood = v.pgood ∧ (v.settled p).request = v.request ∧ (v.settled p).power = v.power ∧
      (v.settled p).powerTimer = v.powerTimer ∧ (v.settled p).command = v.command ∧ (v.settled p).outcome = v.outcome :=
  Service.setInput_keeps p _ v

/-- The settled input has the raw level and no timer. -/
theorem Service.settled_input (p : PanelInput) (v : Service) : (v.settled p).input p = ⟨(v.input p).raw, (v.input p).raw, none⟩ :=
  Service.input_setInput p _ v

/-- The new power state, timer and command stand over the settled inputs. -/
theorem completed_judged_eq (v : Service) :
    completeCommand (judgePower v) =
      { v with
        power := (completeCommand (judgePower v)).power, powerTimer := (completeCommand (judgePower v)).powerTimer
        command := (completeCommand (judgePower v)).command, outcome := (completeCommand (judgePower v)).outcome } := by
  rw [completeCommand_eq, judgePower_eq]

/-- The power state, its timer and the enable after a controller's power condition is judged (R165 to R168). -/
theorem judgePower_of_broken {v : Service} (hpower : v.power = .rising ∨ v.power = .on) (h : conditionHolds v = false) :
    judgePower v = { v with power := if v.pgood then .falling else .off, powerTimer := if v.pgood then some 0 else none } := by
  rw [judgePower_running_fails hpower h]
  cases hgood : v.pgood
  · rw [enterFalling_of_no_pgood hgood h]; simp [hgood]
  · rw [enterFalling_of_pgood hgood]; simp [hgood]

@[simp] theorem reachedOutcome_falling (c : ServiceCommand) : reachedOutcome c .falling = none := by
  cases c <;> rfl

/-- An outcome is reached just when the completion removes a pending command. -/
theorem reachedOutcome_isSome_iff (v : Service) :
    (reachedOutcome v.command v.power).isSome = true ↔ v.command ≠ .none ∧ (completeCommand v).command = .none := by
  unfold completeCommand
  cases hreached : reachedOutcome v.command v.power with
  | none => simp
  | some o =>
    have hpending : v.command ≠ .none := by
      intro h
      rw [h] at hreached
      cases hreached
    simp [hpending]

/-- In RISING the pending command is a POWER_ON, and nothing is pending in OFF, ON and FAULT (R171, R172). -/
theorem Service.Lawful.command_rising {v : Service} (h : v.Lawful) (hp : v.power = .rising) : v.command = .none ∨ v.command = .powerOn := by
  have hreq := (h.condition (.inl hp)).1
  cases hc : v.command with
  | none => exact .inl rfl
  | powerOn => exact .inr rfl
  | powerOff => rw [h.offRequest hc] at hreq; cases hreq

theorem Service.Lawful.command_settled {v : Service} (h : v.Lawful) (hrising : v.power ≠ .rising) (hfalling : v.power ≠ .falling) :
    v.command = .none := by
  by_contra hc
  exact (h.pending hc).elim hrising hfalling

theorem Service.Lawful.powerTimer_none {v : Service} (h : v.Lawful) (hrising : v.power ≠ .rising) (hfalling : v.power ≠ .falling) :
    v.powerTimer = none := by
  rw [← Option.not_isSome_iff_eq_none, h.timer]
  simp [hrising, hfalling]

@[simp] theorem completed_judged_input (p : PanelInput) (v : Service) : (completeCommand (judgePower v)).input p = v.input p := by
  rw [completed_judged_eq]
  cases p <;> rfl

/-- The power condition stands on parts that a judgement leaves as they are. -/
theorem completed_judged_condition (v : Service) :
    let w := completeCommand (judgePower v)
    (w.request = true ∧ w.presence.value = true ∧ w.latch.value = true) ↔ conditionHolds v = true := by
  intro w
  rw [conditionHolds_iff]
  have hw : w = completeCommand (judgePower v) := rfl
  rw [completed_judged_eq] at hw
  rw [hw]

/-! ### The end of a presence or latch debounce, by power state -/

section Settled

variable {s : State} {p : PanelInput}

/-- The controller after the debounce of presence or latch ends. -/
def Service.afterDebounce (p : PanelInput) (v : Service) : Service := completeCommand (judgePower (v.settled p))

theorem Service.afterDebounce_off_holds {v : Service} (hlaw : v.Lawful) (hp : v.power = .off) (h : conditionHolds (v.settled p) = true) :
    v.afterDebounce p = enterRising (v.settled p) := by
  rw [Service.afterDebounce, judgePower_off_holds (by simpa using hp) h]
  exact completeCommand_of_none (by simp [enterRising, hlaw.command_settled (by simp [hp]) (by simp [hp]), reachedOutcome])

theorem Service.afterDebounce_off_fails {v : Service} (hlaw : v.Lawful) (hp : v.power = .off) (h : conditionHolds (v.settled p) = false) :
    v.afterDebounce p = v.settled p := by
  rw [Service.afterDebounce, judgePower_off_fails (by simpa using hp) h]
  exact completeCommand_of_none (by simpa using hlaw.reachedOutcome)

theorem Service.afterDebounce_still {v : Service} (hlaw : v.Lawful) (hp : v.power = .falling ∨ v.power = .fault) :
    v.afterDebounce p = v.settled p := by
  rw [Service.afterDebounce, judgePower_falling_or_fault (by simpa using hp)]
  exact completeCommand_of_none (by simpa using hlaw.reachedOutcome)

theorem Service.afterDebounce_running {v : Service} (hlaw : v.Lawful) (hnotButton : p ≠ .button) (htimer : (v.input p).timer.isSome = true)
    (hp : v.power = .rising ∨ v.power = .on) (hgood : v.pgood = true) :
    v.afterDebounce p = { v.settled p with power := .falling, powerTimer := some 0 } := by
  rw [Service.afterDebounce, judgePower_of_broken (by simpa using hp) (conditionHolds_settled_running hlaw hnotButton htimer hp)]
  simp only [Service.settled_keeps, hgood, if_true]
  exact completeCommand_of_none (by simp)

theorem Service.afterDebounce_running_lost {v : Service} (hlaw : v.Lawful) (hnotButton : p ≠ .button)
    (htimer : (v.input p).timer.isSome = true) (hp : v.power = .rising ∨ v.power = .on) (hgood : v.pgood = false) :
    v.afterDebounce p =
      { v.settled p with
        power := .off, powerTimer := none, command := .none
        outcome := if v.power = .rising ∧ v.command = .powerOn then .doneHeld else v.outcome } := by
  rw [Service.afterDebounce, judgePower_of_broken (by simpa using hp) (conditionHolds_settled_running hlaw hnotButton htimer hp)]
  simp only [Service.settled_keeps, hgood, Bool.false_eq_true, if_false]
  rcases hp with hp | hp
  · rcases hlaw.command_rising hp with hc | hc
    · simp [completeCommand, reachedOutcome, hc]
    · simp [completeCommand, reachedOutcome, hc, hp]
  · simp [completeCommand, reachedOutcome, hlaw.command_settled (by simp [hp]) (by simp [hp]), hp]

/-- A POWER_ON that a loss in RISING holds back (R171). -/
abbrev Service.held (v : Service) : Prop := v.power = .rising ∧ v.pgood = false ∧ v.command = .powerOn

theorem Service.afterDebounce_command {v : Service} (hlaw : v.Lawful) (hnotButton : p ≠ .button) (htimer : (v.input p).timer.isSome = true) :
    (v.held → (v.afterDebounce p).command = .none ∧ (v.afterDebounce p).outcome = .doneHeld) ∧
      (¬v.held → (v.afterDebounce p).command = v.command ∧ (v.afterDebounce p).outcome = v.outcome) := by
  unfold Service.held
  cases hp : v.power with
  | off =>
    cases hcond : conditionHolds (v.settled p) with
    | true => simp [Service.afterDebounce_off_holds hlaw hp hcond, enterRising]
    | false => simp [Service.afterDebounce_off_fails hlaw hp hcond]
  | falling => simp [Service.afterDebounce_still hlaw (.inl hp)]
  | fault => simp [Service.afterDebounce_still hlaw (.inr hp)]
  | on =>
    have hc := hlaw.command_settled (by simp [hp]) (by simp [hp])
    cases hgood : v.pgood with
    | true => simp [Service.afterDebounce_running hlaw hnotButton htimer (.inr hp) hgood]
    | false => simp [Service.afterDebounce_running_lost hlaw hnotButton htimer (.inr hp) hgood, hp, hc]
  | rising =>
    cases hgood : v.pgood with
    | true => simp [Service.afterDebounce_running hlaw hnotButton htimer (.inl hp) hgood]
    | false =>
      rw [Service.afterDebounce_running_lost hlaw hnotButton htimer (.inl hp) hgood]
      rcases hlaw.command_rising hp with hc | hc <;> simp [hp, hc]

theorem Service.afterDebounce_of_running {v : Service} (hlaw : v.Lawful) (hnotButton : p ≠ .button)
    (htimer : (v.input p).timer.isSome = true) (hp : v.power = .on ∨ v.power = .rising) :
    (v.afterDebounce p).power = (if v.pgood then .falling else .off) ∧
      (v.afterDebounce p).powerTimer = (if v.pgood then some 0 else none) ∧ pwrEn (v.afterDebounce p) = false := by
  cases hgood : v.pgood with
  | true => simp [Service.afterDebounce_running hlaw hnotButton htimer hp.symm hgood, pwrEn]
  | false => simp [Service.afterDebounce_running_lost hlaw hnotButton htimer hp.symm hgood, pwrEn]

/-- The power state is ON after no debounce of presence or latch. -/
theorem Service.afterDebounce_not_on {v : Service} (hlaw : v.Lawful) (hnotButton : p ≠ .button)
    (htimer : (v.input p).timer.isSome = true) : (v.afterDebounce p).power ≠ .on := by
  cases hp : v.power with
  | off =>
    cases hcond : conditionHolds (v.settled p) with
    | true => simp [Service.afterDebounce_off_holds hlaw hp hcond, enterRising]
    | false => simp [Service.afterDebounce_off_fails hlaw hp hcond, hp]
  | falling => simp [Service.afterDebounce_still hlaw (.inl hp), hp]
  | fault => simp [Service.afterDebounce_still hlaw (.inr hp), hp]
  | on => rw [(Service.afterDebounce_of_running hlaw hnotButton htimer (.inl hp)).1]; split <;> simp
  | rising => rw [(Service.afterDebounce_of_running hlaw hnotButton htimer (.inr hp)).1]; split <;> simp

end Settled

theorem pwrEn_enterRising {v : Service} (h : conditionHolds v = true) : pwrEn (enterRising v) = true := by
  have hsame : conditionHolds (enterRising v) = conditionHolds v := rfl
  rw [pwrEn, hsame, h]
  rfl

/-- A POWER_ON that is held back is the one command a debounce completes. -/
theorem Service.reached_after_settled {v : Service} {p : PanelInput} (hlaw : v.Lawful) (hnotButton : p ≠ .button)
    (htimer : (v.input p).timer.isSome = true) :
    (reachedOutcome (judgePower (v.settled p)).command (judgePower (v.settled p)).power).isSome = true ↔ v.held := by
  have hcommand := Service.afterDebounce_command hlaw hnotButton htimer
  have hjudged : (judgePower (v.settled p)).command = v.command := by rw [judgePower_eq]; simp
  rw [reachedOutcome_isSome_iff, hjudged]
  unfold Service.afterDebounce at hcommand
  constructor
  · rintro ⟨hne, hdone⟩
    by_contra hnot
    exact hne ((hcommand.2 hnot).1 ▸ hdone)
  · intro h
    exact ⟨by rw [h.2.2]; decide, (hcommand.1 h).1⟩

/-- A judgement never enters FAULT. -/
theorem judgePower_fault_iff (v : Service) : (judgePower v).power = .fault ↔ v.power = .fault := by
  unfold judgePower enterFalling enterOff enterRising
  repeat' split
  all_goals simp_all

/-! ### The button (R163, R174, R52) -/

theorem effect_button_settles {s : State} (htimer : s.svc.button.timer.isSome = true) :
    effect (.debounceExpiry .button) s =
      State.debounced .button { s with svc.button := ⟨s.svc.button.raw, s.svc.button.raw, none⟩ } :=
  if_pos htimer

/-- The state once the press is debounced. -/
def State.pressed (s : State) : State := { s with svc.button := ⟨true, true, none⟩ }

theorem effect_buttonPress {s : State} (htimer : s.svc.button.timer.isSome = true) (hraw : s.svc.button.raw = true) :
    effect (.debounceExpiry .button) s = s.pressed.buttonPress := by
  rw [effect_button_settles htimer, hraw]
  rfl

theorem effect_buttonRelease {s : State} (htimer : s.svc.button.timer.isSome = true) (hraw : s.svc.button.raw = false) :
    effect (.debounceExpiry .button) s = { s with svc.button := ⟨false, false, none⟩ } := by
  rw [effect_button_settles htimer, hraw]
  rfl

/-- The blink that a leave begins keeps its phase when it is shown already (log 14). -/
theorem reportLeaveBegun_eq (v : Service) :
    reportLeaveBegun v =
      { v with
        led := .blink, follow := true
        blinkHigh := if v.led = .blink then v.blinkHigh else true
        blinkElapsed := if v.led = .blink then v.blinkElapsed else 0 } := by
  by_cases h : v.led = .blink <;> simp [reportLeaveBegun, setLed, h]

theorem reportLeaveDone_begun_eq (v : Service) :
    reportLeaveDone (reportLeaveBegun v) =
      { v with
        led := .on, follow := false
        blinkHigh := if v.led = .blink then v.blinkHigh else true
        blinkElapsed := if v.led = .blink then v.blinkElapsed else 0 } := by
  rw [reportLeaveBegun_eq]
  simp [reportLeaveDone, setLed]

theorem State.buttonPress_alone {s : State}
    (h : s.cfg.autoLeave = false ∨ s.ctl.state = .offline ∨ s.ctl.state = .leaving ∨ s.ctl.state = .fault ∨ s.ctl.state = .loopback) :
    s.buttonPress = { s with events.service.buttonPressed := true } := by
  unfold State.buttonPress
  cases hauto : s.cfg.autoLeave with
  | false => rfl
  | true =>
    rw [hauto] at h
    rcases h with h | h | h | h | h
    · cases h
    all_goals simp [State.autoLeaveRequest, h]

theorem State.buttonPress_member {s : State} (hauto : s.cfg.autoLeave = true) (h : s.ctl.state = .member) :
    s.buttonPress =
      { s.beginLeaving true with
        svc := reportLeaveBegun s.svc, events.service := { s.events.service with buttonPressed := true } } := by
  simp only [State.buttonPress, hauto, if_true, State.autoLeaveRequest, h]
  rfl

theorem State.buttonPress_entering {s : State} (hauto : s.cfg.autoLeave = true) (h : s.ctl.state = .listening ∨ s.ctl.state = .joining) :
    s.buttonPress =
      { s.enterOffline with
        svc := reportLeaveDone (reportLeaveBegun s.svc), events.service := { s.events.service with buttonPressed := true } } := by
  rcases h with h | h <;> simp only [State.buttonPress, hauto, if_true, State.autoLeaveRequest, h] <;> rfl

/-- A press raises BUTTON_PRESSED, refuses no command and leaves all but the LED of the service controller. -/
theorem State.buttonPress_reports (s : State) :
    s.buttonPress.events.service.buttonPressed = true ∧
      s.buttonPress.events.wall.commandRefused = s.events.wall.commandRefused ∧
      s.buttonPress.svc.button = s.svc.button ∧ s.buttonPress.svc.power = s.svc.power := by
  have hled : LedOnly s.svc s.buttonPress.svc := s.buttonPress_ledOnly
  have hsvc : s.buttonPress.svc.button = s.svc.button ∧ s.buttonPress.svc.power = s.svc.power := by
    rw [hled]
    exact ⟨rfl, rfl⟩
  refine ⟨?_, ?_, hsvc⟩
  · unfold State.buttonPress State.autoLeaveRequest
    dsimp only
    repeat' split
    all_goals rfl
  · unfold State.buttonPress State.autoLeaveRequest
    dsimp only
    repeat' split
    all_goals rfl

/-- The own leave frame stands L after the first LEAVE message, in this frame or the next (R49). -/
theorem State.leaveFrameNow_eq (s : State) :
    s.leaveFrameNow =
      if s.timer.ownOpened then s.timer.frame + 1 + s.cfg.lead.setWidth 16 else s.timer.frame + s.cfg.lead.setWidth 16 := by
  unfold State.leaveFrameNow State.frameLead plusLead
  split
  · exact add_right_comm _ _ _
  · rfl

theorem effect_leave_member {s : State} (h : s.ctl.state = .member) : effect .leave s = (s.portWrite 0x28).beginLeaving false := by
  change (s.portWrite 0x28).leaveCommand = _
  have hstate : (s.portWrite 0x28).ctl.state = .member := h
  simp only [State.leaveCommand, hstate]

theorem effect_leave_entering {s : State} (h : s.ctl.state = .listening ∨ s.ctl.state = .joining) :
    effect .leave s = (s.portWrite 0x28).enterOffline := by
  change (s.portWrite 0x28).leaveCommand = _
  have hstate : (s.portWrite 0x28).ctl.state = .listening ∨ (s.portWrite 0x28).ctl.state = .joining := h
  rcases hstate with hstate | hstate <;> simp only [State.leaveCommand, hstate]

end Sys2Proof.Machine

namespace Sys2Proof.Proofs

open Sys2Proof Sys2Proof.Machine

/-- Settles O51: a line change, the end of a presence or latch debounce by power state, and the press and the release of the button. -/
theorem panelInputsPowerAndButton : Obligations.PanelInputsPowerAndButton := by
  refine ⟨⟨fun p level s => ⟨_, rfl, fun h => ?_, fun h => ?_, ?_⟩, fun p s hinv hp htimer => ?_⟩, fun s hbutton htimer => ?_,
    fun s hbutton htimer => ?_⟩
  · rw [h, DebouncedInput.lineTo_same, Service.setInput_self]
  · simp [DebouncedInput.lineTo_other h]
  · simp
  · have hlaw := (panelInv_iff s).1 hinv
    have hholds := completed_judged_condition (s.svc.settled p)
    have hcommand := Service.afterDebounce_command hlaw hp htimer
    refine ⟨effect (.debounceExpiry p) s, rfl, ?_⟩
    rw [effect_debounceExpiry htimer, State.debounced_power hp]
    have hsvc : ((State.inputChanged p { s with svc := s.svc.settled p }).servicePower (judgePower (s.svc.settled p))).svc =
        s.svc.afterDebounce p := rfl
    simp only [hsvc]
    refine ⟨?_, ?_, ?_, ?_, ?_, ?_, ?_, ?_, ?_, ?_, ⟨?_, ?_, ?_⟩, ?_, ?_, ?_, ?_⟩
    case refine_1 => simp [Service.afterDebounce, Service.settled_input]
    case refine_2 => simp [Service.afterDebounce, Service.settled_input]
    case refine_3 => rintro rfl; exact ⟨rfl, rfl⟩
    case refine_4 => rintro rfl; exact ⟨rfl, rfl⟩
    case refine_5 => cases p <;> rfl
    case refine_6 =>
      have hsame : s.svc.setInput p ((s.svc.settled p).input p) = s.svc.settled p := by
        rw [Service.settled, Service.input_setInput]
      rw [Service.afterDebounce, completed_judged_input, hsame]
      exact completed_judged_eq _
    case refine_7 =>
      intro hoff hcond
      rw [Service.afterDebounce_off_holds hlaw hoff (hholds.1 hcond)]
      exact ⟨rfl, rfl, pwrEn_enterRising (hholds.1 hcond)⟩
    case refine_8 =>
      intro hoff hcond
      have hfails : conditionHolds (s.svc.settled p) = false := Bool.eq_false_iff.2 fun h => hcond (hholds.2 h)
      rw [Service.afterDebounce_off_fails hlaw hoff hfails]
      simp [hoff, pwrEn, hlaw.powerTimer_none]
    case refine_9 => exact Service.afterDebounce_of_running hlaw hp htimer
    case refine_10 =>
      intro hstill
      rw [Service.afterDebounce_still hlaw hstill]
      simp
    case refine_11 =>
      split
      case isTrue h => exact (hcommand.1 h).1
      case isFalse h => exact (hcommand.2 h).1
    case refine_12 =>
      split
      case isTrue h => exact (hcommand.1 h).2
      case isFalse h => exact (hcommand.2 h).2
    case refine_13 =>
      have hreached := Service.reached_after_settled hlaw hp htimer
      have hdone : (State.inputChanged p { s with svc := s.svc.settled p }).events.service.serviceDone =
          s.events.service.serviceDone := by cases p <;> rfl
      simp only [State.servicePower, hdone]
      rw [Bool.eq_iff_iff.2 (hreached.trans decide_eq_true_iff.symm)]
    case refine_14 => cases p <;> rfl
    case refine_15 =>
      have hfault := judgePower_fault_iff (s.svc.settled p)
      have hsame : (State.inputChanged p { s with svc := s.svc.settled p }).svc.power = (s.svc.settled p).power := by cases p <;> rfl
      have hbefore : (State.inputChanged p { s with svc := s.svc.settled p }).events.service.powerFault =
          s.events.service.powerFault := by cases p <;> rfl
      simp [State.servicePower, hsame, hbefore, hfault]
    case refine_16 => cases p <;> rfl
    case refine_17 =>
      have hnot := Service.afterDebounce_not_on hlaw hp htimer
      rw [Service.afterDebounce, completeCommand_power] at hnot
      simp [State.servicePower, hnot]
  · refine ⟨effect (.debounceExpiry .button) s, rfl, ?_⟩
    rw [effect_buttonPress htimer (congrArg DebouncedInput.raw hbutton)]
    obtain ⟨hpressed, hrefused, hbutton', hpower⟩ := s.pressed.buttonPress_reports
    refine ⟨hbutton', hpressed, hrefused, hpower, s.pressed.buttonPress_alone, fun hauto hst => ⟨effect .leave s, rfl, ?_⟩,
      fun hauto hst => ?_, fun hauto hst => ?_⟩
    · rcases hst with hst | hst
      · rw [s.pressed.buttonPress_member hauto hst, effect_leave_member hst, reportLeaveBegun_eq]
        simp only [hst, decide_true, if_true]
        rfl
      · have hnot : s.ctl.state ≠ .member := by rcases hst with hst | hst <;> simp [hst]
        rw [s.pressed.buttonPress_entering hauto hst, effect_leave_entering hst, reportLeaveDone_begun_eq]
        simp only [hnot, decide_false, if_false]
        rfl
    · rw [s.pressed.buttonPress_member hauto hst]
      exact ⟨rfl, Bool.and_false _, rfl, congrArg some s.leaveFrameNow_eq⟩
    · rw [s.pressed.buttonPress_entering hauto hst]
      exact ⟨rfl, rfl, s.pressed.enterOffline_sub⟩
  · exact congrArg Host.Outcome.next (effect_buttonRelease htimer (congrArg DebouncedInput.raw hbutton))

end Sys2Proof.Proofs

/-! SUPPORT. What the work of a frame start leaves of the frame timer, the enables, the service events and the stage, and the frame start
by its two causes (R20 to R24). -/

namespace Sys2Proof.Machine

/-! ### What the blocks leave of the frame timer -/

/-- `t` follows `s` in one frame: the frame timer is the same but that the strobe drive may have been released, and no enable, service event
or stage byte has changed. -/
structure State.InFrame (s t : State) : Prop where
  timer : t.timer = { s.timer with driving := t.timer.driving }
  released : t.timer.driving = true → s.timer.driving = true
  enables : t.events.enables = s.events.enables
  service : t.events.service = s.events.service
  started : s.events.frame.frameStarted = true → t.events.frame.frameStarted = true
  stage : t.sub.stage = s.sub.stage

theorem State.InFrame.refl (s : State) : s.InFrame s := ⟨rfl, id, rfl, rfl, id, rfl⟩

theorem State.InFrame.trans {s t u : State} (h : s.InFrame t) (h' : t.InFrame u) : s.InFrame u :=
  ⟨by rw [h'.timer, h.timer], fun hd => h.released (h'.released hd), h'.enables.trans h.enables, h'.service.trans h.service,
    fun hs => h'.started (h.started hs), h'.stage.trans h.stage⟩

theorem State.changeState_inFrame (new : StationState) (s : State) : s.InFrame (s.changeState new) :=
  ⟨rfl, fun h => (Bool.and_eq_true_iff.1 h).1, rfl, rfl, id, rfl⟩

theorem State.enterOffline_inFrame (s : State) : s.InFrame s.enterOffline :=
  ⟨rfl, fun h => (Bool.and_eq_true_iff.1 h).1, rfl, rfl, id, rfl⟩

theorem State.enterFault_inFrame (reason : FaultReason) (s : State) : s.InFrame (s.enterFault reason) :=
  ⟨rfl, fun h => (Bool.and_eq_true_iff.1 h).1, rfl, rfl, id, rfl⟩

theorem State.resync_inFrame (cause : ResyncCause) (s : State) : s.InFrame (s.resync cause) :=
  ⟨rfl, fun h => (Bool.and_eq_true_iff.1 h).1, rfl, rfl, id, rfl⟩

/-- An operation that leaves the frame timer and of the events changes the wall set alone. -/
theorem State.InFrame.of_wall {s t : State} (htimer : t.timer = s.timer) (hevents : t.events = { s.events with wall := t.events.wall })
    (hstage : t.sub.stage = s.sub.stage) : s.InFrame t :=
  ⟨by rw [htimer], fun h => htimer ▸ h, by rw [hevents], by rw [hevents], fun h => by rw [hevents]; exact h, hstage⟩

theorem State.InFrame.of_same {s t : State} (htimer : t.timer = s.timer) (hevents : t.events = s.events)
    (hstage : t.sub.stage = s.sub.stage) : s.InFrame t :=
  .of_wall htimer (by rw [hevents]) hstage

theorem State.abandon_inFrame (s : State) : s.InFrame s.abandon := by
  refine .of_wall (by simp) ?_ (by simp)
  unfold State.abandon
  split <;> rfl

theorem State.updateEntry_inFrame (k : Position) (e : Entry) (s : State) : s.InFrame (s.updateEntry k e) := by
  have hset : s.InFrame (s.setEntry k e) := .of_same (by simp) (by simp) (by simp)
  have hraised : s.InFrame (s.setEntry k e).raiseRosterChanged := .of_wall rfl rfl rfl
  unfold State.updateEntry
  dsimp only
  repeat' split
  · exact hset
  · exact hraised.trans (State.abandon_inFrame _)
  · exact hraised

theorem State.ageEntry_inFrame (k : Position) (s : State) : s.InFrame (s.ageEntry k) := by
  unfold State.ageEntry
  dsimp only
  split
  · exact State.updateEntry_inFrame _ _ _
  · exact .of_same (by simp) (by simp) (by simp)

theorem State.removeLeaver_inFrame (k : Position) (s : State) : s.InFrame (s.removeLeaver k) := by
  unfold State.removeLeaver
  split
  · exact State.updateEntry_inFrame _ _ _
  · exact .refl s

theorem State.InFrame.foldl {α : Type} (f : State → α → State) (h : ∀ (s : State) (a : α), s.InFrame (f s a)) (l : List α) (s : State) :
    s.InFrame (l.foldl f s) := by
  induction l generalizing s with
  | nil => exact .refl s
  | cons a l ih => exact (h s a).trans (ih _)

theorem State.removeLeavers_inFrame (s : State) : s.InFrame s.removeLeavers :=
  .foldl (fun s k => s.removeLeaver k) (fun s k => s.removeLeaver_inFrame k) _ s

theorem State.addReceipts_inFrame (rs : List Receipt) (s : State) : s.InFrame (s.addReceipts rs) := .of_same rfl rfl rfl

theorem State.discardRecord_inFrame (r : HeldRecord) (s : State) : s.InFrame (s.discardRecord r) := by
  have hreceipt : s.InFrame (if r.origin = s.own then s.addReceipts [receiptOf r .discardedFull] else s) := by
    split
    · exact State.addReceipts_inFrame _ s
    · exact .refl s
  unfold State.discardRecord
  dsimp only
  split
  case h_1 => exact (hreceipt.trans (State.abandon_inFrame _)).trans (.of_same rfl rfl rfl)
  case h_2 => exact hreceipt.trans (.of_same rfl rfl rfl)
  all_goals exact hreceipt

theorem State.acceptRecord_inFrame (r : HeldRecord) (s : State) : s.InFrame (s.acceptRecord r) := by
  unfold State.acceptRecord
  repeat' split
  · exact .of_same rfl rfl rfl
  · exact State.discardRecord_inFrame r s
  · exact .of_same rfl rfl rfl

theorem State.acceptRecords_inFrame (rs : List HeldRecord) (s : State) : s.InFrame (s.acceptRecords rs) :=
  .foldl (fun s r => s.acceptRecord r) (fun s r => s.acceptRecord_inFrame r) rs s

theorem State.reportObjects_inFrame (w c : Bool) (s : State) : s.InFrame (s.reportObjects w c) := by
  have hviews (u : State) : u.InFrame u.refreshViews := ⟨rfl, id, rfl, rfl, id, rfl⟩
  have hcursor (u : State) : u.InFrame u.refreshCursor := ⟨rfl, id, rfl, rfl, id, rfl⟩
  cases w <;> cases c
  · exact .refl s
  · exact hcursor s
  · exact hviews s
  · exact (hviews s).trans (hcursor _)

theorem State.takeDefaults_inFrame (s : State) : s.InFrame s.takeDefaults :=
  ⟨rfl, id, rfl, rfl, id, rfl⟩

theorem State.frameWork_inFrame (s : State) : s.InFrame s.frameWork := by
  have happly (u : State) (h : u.timer = s.timer) (he : u.events.enables = s.events.enables) (hv : u.events.service = s.events.service)
      (hf : u.events.frame.frameStarted = s.events.frame.frameStarted) (hs : u.sub.stage = s.sub.stage) : s.InFrame u :=
    ⟨by rw [h], fun hd => h ▸ hd, he, hv, fun hd => hf.trans hd, hs⟩
  unfold State.frameWork
  dsimp only
  split
  · refine State.InFrame.trans ?_ (State.reportObjects_inFrame _ _ _)
    exact happly _ rfl rfl rfl rfl rfl
  · have hshow (u : State) : u.InFrame u.reportShow := .of_same rfl rfl rfl
    refine (State.InFrame.trans ?_ (State.reportObjects_inFrame _ _ _)).trans (hshow _)
    exact happly _ rfl rfl rfl rfl rfl

theorem State.partSent_inFrame (s : State) : s.InFrame s.partSent := .of_same (by simp) (by simp) (by simp)

theorem State.readbackSucceeded_inFrame (s : State) : s.InFrame s.readbackSucceeded := by
  unfold State.readbackSucceeded
  dsimp only
  split
  · refine State.InFrame.trans (State.InFrame.trans ?_ (State.acceptRecords_inFrame _ _)) (State.partSent_inFrame _)
    exact .of_same rfl rfl rfl
  · refine State.InFrame.trans ?_ (State.acceptRecords_inFrame _ _)
    exact .of_same rfl rfl rfl

theorem State.readbackFailed_inFrame (s : State) : s.InFrame s.readbackFailed := by
  unfold State.readbackFailed
  dsimp only
  repeat' split
  · refine State.InFrame.trans ?_ (State.enterFault_inFrame .collision _)
    exact .of_same rfl rfl rfl
  · refine State.InFrame.trans ?_ (State.resync_inFrame .readback _)
    exact .of_same rfl rfl rfl
  · exact .of_same rfl rfl rfl

theorem State.countBad_inFrame (s : State) : s.InFrame s.countBad := .of_same (by simp) (by simp) (by simp)

theorem State.closePeerSlot_inFrame (k : Position) (s : State) : s.InFrame (s.closePeerSlot k) := by
  have hcounted : s.InFrame (if s.bus.attempt = .receiving then s.countBad else s) := by
    split
    · exact State.countBad_inFrame s
    · exact .refl s
  unfold State.closePeerSlot
  dsimp only
  split
  · exact hcounted.trans (State.ageEntry_inFrame k _)
  · exact hcounted

theorem State.closeOwnSlot_inFrame (s : State) : s.InFrame s.closeOwnSlot := by
  unfold State.closeOwnSlot
  repeat' split
  · refine State.InFrame.trans ?_ (State.readbackFailed_inFrame _)
    exact .of_same rfl rfl rfl
  · refine State.InFrame.trans ?_ (State.readbackSucceeded_inFrame _)
    exact .of_same rfl rfl rfl
  · exact State.countBad_inFrame s
  · exact .refl s

theorem State.found_inFrame (s : State) : s.InFrame s.found := by
  refine ((State.changeState_inFrame .member s).trans ?_).trans (State.takeDefaults_inFrame _)
  exact .of_same rfl rfl rfl

theorem State.endListening_inFrame (s : State) : s.InFrame s.endListening := by
  unfold State.endListening
  split
  · exact (State.changeState_inFrame .joining s).trans (.of_same rfl rfl rfl)
  · exact State.found_inFrame s

theorem State.joiningFrame_inFrame (s : State) : s.InFrame s.joiningFrame := by
  have hword : s.InFrame s.sendDeferredWord := .of_same rfl rfl rfl
  have hdrop (u : State) : u.InFrame u.dropHeld := .of_same rfl rfl rfl
  have hage (u : State) : u.InFrame u.ageELost := .of_same (by simp) (by simp) (by simp)
  exact ((hword.trans (State.removeLeavers_inFrame _)).trans (hdrop _)).trans (hage _)

theorem State.countListening_inFrame (s : State) : s.InFrame s.countListening := by
  unfold State.countListening
  dsimp only
  split
  · refine State.InFrame.trans ?_ (State.endListening_inFrame _)
    exact .of_same rfl rfl rfl
  · exact .of_same rfl rfl rfl

theorem State.listeningFrame_eq (s : State) : s.listeningFrame = s.joiningFrame.countListening := rfl

theorem State.listeningFrame_inFrame (s : State) : s.InFrame s.listeningFrame :=
  s.joiningFrame_inFrame.trans s.joiningFrame.countListening_inFrame

theorem State.memberFrame_inFrame (s : State) : s.InFrame s.memberFrame := by
  have hstream (u : State) : u.InFrame u.startStream := .of_same (by simp) (by simp) (by simp)
  exact (s.removeLeavers_inFrame.trans (State.frameWork_inFrame _)).trans (hstream _)

theorem State.leaveDone_inFrame (s : State) : s.InFrame s.leaveDone := by
  have hword : s.InFrame s.sendDeferredWord := .of_same rfl rfl rfl
  have hoffline : s.InFrame s.sendDeferredWord.enterOffline := hword.trans (State.enterOffline_inFrame _)
  unfold State.leaveDone
  dsimp only
  split
  · exact hoffline.trans (.of_same rfl rfl rfl)
  · exact hoffline

/-- The work of the blocks at a frame start leaves the frame timer, but that the drive may be released. -/
theorem State.blockWork_inFrame (s : State) : s.InFrame s.blockWork := by
  unfold State.blockWork
  split
  case h_3 => exact s.listeningFrame_inFrame
  case h_4 => exact s.joiningFrame_inFrame
  case h_5 => exact s.memberFrame_inFrame
  case h_6 =>
    unfold State.leavingFrame
    split
    · exact s.leaveDone_inFrame
    · exact s.removeLeavers_inFrame.trans (State.frameWork_inFrame _)
  case h_7 => exact s.frameWork_inFrame
  all_goals exact .of_same rfl rfl rfl

/-! ### The end of a frame -/

/-- What the end of a frame leaves: the frame number, the early-strobe counter, the enables, the service events and the stage. -/
structure State.FrameEnds (s t : State) : Prop where
  frame : t.timer.frame = s.timer.frame
  early : t.timer.earlyStrobes = s.timer.earlyStrobes
  released : t.timer.driving = true → s.timer.driving = true
  enables : t.events.enables = s.events.enables
  service : t.events.service = s.events.service
  stage : t.sub.stage = s.sub.stage

theorem State.InFrame.ends {s t : State} (h : s.InFrame t) : s.FrameEnds t :=
  ⟨by rw [h.timer], by rw [h.timer], h.released, h.enables, h.service, h.stage⟩

theorem State.closeSlot_ends (k : Position) (s : State) : s.FrameEnds (s.closeSlot k) := by
  have hclosed : s.InFrame (if k = s.own then s.closeOwnSlot else s.closePeerSlot k) := by
    split
    · exact s.closeOwnSlot_inFrame
    · exact s.closePeerSlot_inFrame k
  exact { hclosed.ends with }

theorem State.closeOpenSlot_ends (s : State) : s.FrameEnds s.closeOpenSlot := by
  unfold State.closeOpenSlot
  split
  · exact (State.InFrame.refl s).ends
  · exact s.closeSlot_ends _

theorem State.endFrame_ends (s : State) : s.FrameEnds s.endFrame := by
  have h := s.closeOpenSlot_ends
  unfold State.endFrame
  dsimp only
  split
  · exact ⟨by simpa using h.frame, by simpa using h.early, by simpa using h.released, by simpa using h.enables,
      by simpa using h.service, by simpa using h.stage⟩
  · exact h

/-! ### The bad-message counter at a frame start (R2, R5) -/

@[simp] theorem busOnState_badMessages (new : StationState) (b : Bus) : (busOnState new b).badMessages = b.badMessages := by
  have hcut : (cutMessage b).badMessages = b.badMessages := by
    unfold cutMessage
    split <;> rfl
  unfold busOnState
  dsimp only
  repeat' split
  · rfl
  · exact hcut
  · exact hcut

@[simp] theorem State.changeState_badMessages (new : StationState) (s : State) :
    (s.changeState new).bus.badMessages = s.bus.badMessages := busOnState_badMessages new s.bus

theorem State.countListening_badMessages (s : State) : s.countListening.bus.badMessages = s.bus.badMessages := by
  unfold State.countListening State.endListening State.found
  dsimp only
  repeat' split
  all_goals simp

theorem State.leaveDone_badMessages (s : State) : s.leaveDone.bus.badMessages = s.bus.badMessages := by
  have hoffline : s.sendDeferredWord.enterOffline.bus.badMessages = s.bus.badMessages := busOnState_badMessages _ _
  unfold State.leaveDone
  dsimp only
  split <;> exact hoffline

theorem State.blockWork_badMessages (s : State) : s.blockWork.bus.badMessages = s.bus.badMessages := by
  unfold State.blockWork
  split
  case h_3 =>
    rw [State.listeningFrame_eq, State.countListening_badMessages]
    simp [State.joiningFrame, State.sendDeferredWord]
  case h_6 =>
    unfold State.leavingFrame
    split
    · exact s.leaveDone_badMessages
    · simp
  all_goals simp [State.sendDeferredWord, State.joiningFrame, State.memberFrame]

/-- An attempt that a frame start finds unfinished between two windows is counted, except in LOOPBACK (R2, R5). -/
theorem State.endFrame_badMessages {s : State} (h : s.timer.openSlot = none) :
    s.endFrame.bus.badMessages =
      if s.bus.attempt = .receiving ∧ s.ctl.state ≠ .loopback ∧ s.bus.badMessages ≠ 255 then s.bus.badMessages + 1
      else s.bus.badMessages := by
  have hclosed : s.closeOpenSlot = s := by simp [State.closeOpenSlot, h]
  simp only [State.endFrame, hclosed, State.countBad, satInc]
  by_cases hatt : s.bus.attempt = .receiving
  · by_cases hloop : s.ctl.state = .loopback
    · simp [hatt, hloop]
    · by_cases hfull : s.bus.badMessages = 255 <;> simp [hatt, hloop, hfull]
  · simp [hatt]

/-! ### The frame start (R23) -/

/-- What every frame start does, whichever cause it has. -/
structure State.FrameStarted (s t : State) : Prop where
  frame : t.timer.frame = s.timer.frame + 1
  elapsed : t.timer.elapsed = 0
  noGuard : t.timer.noGuard = false
  period : t.timer.period = s.cfg.period
  openSlot : t.timer.openSlot = some 0
  nextSlot : t.timer.nextSlot = 1
  ownOpened : t.timer.ownOpened = decide (s.own = 0 ∧ (t.ctl.state = .offline ∨ t.ctl.state = .listening ∨ t.ctl.state = .fault))
  early : t.timer.earlyStrobes = s.timer.earlyStrobes
  attempt : t.bus.attempt = if t.ctl.state = .loopback then .off else .waiting
  delivered : t.bus.delivered = false
  bad : s.timer.openSlot = none → t.bus.badMessages =
    if s.bus.attempt = .receiving ∧ s.ctl.state ≠ .loopback ∧ s.bus.badMessages ≠ 255 then s.bus.badMessages + 1
    else s.bus.badMessages
  started : t.events.frame.frameStarted = true
  enables : t.events.enables = s.events.enables
  service : t.events.service = s.events.service
  stage : t.sub.stage = s.sub.stage

/-- The own slot counts as opened when slot 0 opens in a state that builds no message. -/
theorem State.openWindow_zero_ownOpened {b : State} (h : b.timer.ownOpened = false) :
    (b.openWindow 0).timer.ownOpened =
      decide (b.own = 0 ∧ (b.ctl.state = .offline ∨ b.ctl.state = .listening ∨ b.ctl.state = .fault)) := by
  have hbuilds : (!buildsMessages b.ctl.state) = decide (b.ctl.state = .offline ∨ b.ctl.state = .listening ∨ b.ctl.state = .fault) := by
    cases b.ctl.state <;> rfl
  by_cases hown : b.own = 0
  · simp [State.openWindow, hown, hbuilds]
  · have hne : ¬(0 : Position) = b.own := fun h => hown h.symm
    simp [State.openWindow, hown, hne, h]

theorem State.frameStart_started (o : Bool) (s : State) : s.FrameStarted (s.frameStart o) := by
  have hend := s.endFrame_ends
  have hwork := (s.endFrame.startTimer o).blockWork_inFrame
  have hown : (s.endFrame.startTimer o).blockWork.evaluateOutput.own = s.own := by simp [State.own]
  have hopened : (s.endFrame.startTimer o).blockWork.evaluateOutput.timer.ownOpened = false := by
    change (s.endFrame.startTimer o).blockWork.timer.ownOpened = false
    rw [hwork.timer]
    rfl
  have hslot := State.openWindow_zero_ownOpened hopened
  rw [hown] at hslot
  exact {
    frame := (congrArg FrameTimer.frame hwork.timer).trans (congrArg (· + 1) hend.frame)
    elapsed := congrArg FrameTimer.elapsed hwork.timer
    noGuard := congrArg FrameTimer.noGuard hwork.timer
    period := (congrArg FrameTimer.period hwork.timer).trans (congrArg Configuration.period s.endFrame_keeps.2.1)
    openSlot := rfl
    nextSlot := rfl
    ownOpened := hslot
    early := (congrArg FrameTimer.earlyStrobes hwork.timer).trans hend.early
    attempt := rfl
    delivered := rfl
    bad := fun h => (State.blockWork_badMessages _).trans (State.endFrame_badMessages h)
    started := hwork.started rfl
    enables := hwork.enables.trans hend.enables
    service := hwork.service.trans hend.service
    stage := hwork.stage.trans hend.stage }

end Sys2Proof.Machine

/-! SUPPORT. The strobe drive of an own expiry, and a rising edge by the time that has passed (R20 to R24). -/

namespace Sys2Proof.Machine

/-! ### The drive of an own expiry (R22) -/

/-- Where no change of state comes in the frame start, the drive goes on. -/
theorem State.blockWork_keeps_drive {s : State}
    (h : s.ctl.state = .joining ∨ s.ctl.state = .member ∨ (s.ctl.state = .leaving ∧ s.ctl.leaveFrame ≠ some s.timer.frame)) :
    s.blockWork.timer = s.timer := by
  unfold State.blockWork
  rcases h with h | h | ⟨h, hleave⟩
  · simp [h, State.joiningFrame, State.sendDeferredWord]
  · simp [h, State.memberFrame]
  · simp [h, State.leavingFrame, hleave]

theorem State.endFrame_of_between {s : State} (h : s.betweenSlots) :
    s.endFrame = if s.bus.attempt = .receiving then State.countBad { s with bus.attempt := .ended } else s := by
  have hnone : s.timer.openSlot = none := h
  simp [State.endFrame, State.closeOpenSlot, hnone]

theorem State.endFrame_ctl_timer {s : State} (h : s.betweenSlots) : s.endFrame.ctl = s.ctl ∧ s.endFrame.timer = s.timer := by
  rw [State.endFrame_of_between h]
  split <;> simp

theorem State.frameStart_drives {s : State} (h : s.betweenSlots)
    (hst : s.ctl.state = .joining ∨ s.ctl.state = .member ∨
      (s.ctl.state = .leaving ∧ s.ctl.leaveFrame ≠ some (s.timer.frame + 1))) :
    (s.frameStart true).timer.driving = true ∧ (s.frameStart true).timer.driveElapsed = 0 := by
  obtain ⟨hctl, htimer⟩ := State.endFrame_ctl_timer h
  have htransmits : transmits s.endFrame.ctl.state = true := by
    rw [hctl]
    rcases hst with hst | hst | ⟨hst, -⟩ <;> rw [hst] <;> rfl
  have hwork : (s.endFrame.startTimer true).blockWork.timer = (s.endFrame.startTimer true).timer := by
    refine State.blockWork_keeps_drive ?_
    have hframe : (s.endFrame.startTimer true).timer.frame = s.timer.frame + 1 := by rw [← htimer]; rfl
    rw [hframe, State.startTimer_keeps true s.endFrame |>.2.2.2.1, hctl]
    exact hst
  have hstarted : (s.endFrame.startTimer true).timer.driving = true ∧ (s.endFrame.startTimer true).timer.driveElapsed = 0 := by
    simp [State.startTimer, htransmits]
  rw [← hwork] at hstarted
  exact hstarted

theorem State.frameStart_stays_released {s : State} (h : s.betweenSlots) (hst : transmits s.ctl.state = false)
    (hdrive : s.timer.driving = false) : (s.frameStart true).timer.driving = false := by
  obtain ⟨hctl, htimer⟩ := State.endFrame_ctl_timer h
  have hstarted : (s.endFrame.startTimer true).timer.driving = false := by simp [State.startTimer, hctl, hst, htimer, hdrive]
  refine Bool.eq_false_iff.2 fun hon => ?_
  have hbefore : (s.endFrame.startTimer true).timer.driving = true := (s.endFrame.startTimer true).blockWork_inFrame.released hon
  rw [hstarted] at hbefore
  cases hbefore

/-! ### A rising edge (R21, R22, R24) -/

theorem satInc_eq (c : Byte) : satInc c = if c = 255 then 255 else c + 1 := by
  unfold satInc
  split <;> simp_all

theorem State.strobeEdge_unseen {s : State} (h : s.ctl.state = .loopback ∨ s.timer.driving = true) : s.strobeEdge = s := if_pos h

theorem State.strobeEdge_outside {s : State} (hloop : s.ctl.state ≠ .loopback) (hdrive : s.timer.driving = false)
    (h : s.timer.noGuard = true ∨ s.insideGuard = false) : s.strobeEdge = s.frameStart false := by
  simp [State.strobeEdge, hloop, hdrive, h]

theorem State.strobeEdge_inside {s : State} (hloop : s.ctl.state ≠ .loopback) (hdrive : s.timer.driving = false)
    (hguard : s.timer.noGuard = false) (h : s.insideGuard = true) :
    s.strobeEdge = { s with timer.earlyStrobes := satInc s.timer.earlyStrobes } := by
  simp [State.strobeEdge, hloop, hdrive, hguard, h]

/-- The own pulse still holds the line at an edge `d` after the event before it (R22). -/
def State.pulseHolds (s : State) (d : Ticks) : Prop := s.timer.driving = true ∧ s.timer.driveElapsed + d < 4 * 32

theorem State.endPulse_holds {s : State} {d : Ticks} (h : s.pulseHolds d) : (s.advance d).endPulse = s.advance d := by
  obtain ⟨hdrive, helapsed⟩ := h
  have hover : ¬Config.strobePulse ≤ s.timer.driveElapsed + d := Nat.not_le.2 helapsed
  simp [State.endPulse, FrameTimer.pulseOver, State.advance, hdrive, hover]

theorem State.endPulse_idle {s : State} {d : Ticks} (h : s.timer.driving = false) : (s.advance d).endPulse = s.advance d := by
  simp [State.endPulse, State.advance, h]

/-- The line is released when the pulse is over by then, or was not driven. -/
theorem State.endPulse_over {s : State} {d : Ticks} (h : ¬s.pulseHolds d) :
    (s.advance d).endPulse = { s.advance d with timer.driving := false } := by
  unfold State.pulseHolds at h
  cases hdrive : s.timer.driving with
  | false => simp [State.endPulse, State.advance, hdrive]
  | true =>
    have hover : Config.strobePulse ≤ s.timer.driveElapsed + d := Nat.not_lt.1 fun hlt => h ⟨hdrive, hlt⟩
    simp [State.endPulse, FrameTimer.pulseOver, State.advance, hdrive, hover]

/-- The reading stands outside the guard when 7/8 of the period have passed by then. -/
theorem State.insideGuard_advance (s : State) (reading : Ticks) (b : Bool) :
    State.insideGuard { s.advance (reading - s.timer.elapsed) with timer.driving := b } =
      decide (max reading s.timer.elapsed < 28 * s.timer.period.toNat) := by
  have hmax (e r : Nat) : e + (r - e) = max r e := by omega
  have hmax : s.timer.elapsed + (reading - s.timer.elapsed) = max reading s.timer.elapsed := hmax _ _
  exact congrArg (fun n : Nat => decide (n < 28 * s.timer.period.toNat)) hmax

end Sys2Proof.Machine

namespace Sys2Proof.Proofs

open Sys2Proof Sys2Proof.Machine

/-- Settles O7: the frame start of `State.frameStart_started`, and its drive by the station state. -/
theorem ownExpiryStartsFrameAndDrives : Obligations.OwnExpiryStartsFrameAndDrives := by
  refine ⟨fun s => ?_, fun s hbetween => ⟨fun hst => ?_, fun hst hdrive => ?_⟩, fun s => rfl⟩
  · have h := s.frameStart_started true
    obtain ⟨hstraps, hcfg, hport, -⟩ := s.frameStart_keeps true
    exact ⟨_, rfl, h.frame, h.elapsed, h.noGuard, h.period, h.openSlot, h.started, hstraps, hcfg, hport, h.early, h.enables, h.service,
      h.stage, h.nextSlot, h.attempt, h.delivered, h.ownOpened, h.bad⟩
  · exact ⟨_, rfl, State.frameStart_drives hbetween hst⟩
  · refine ⟨_, rfl, State.frameStart_stays_released hbetween ?_ hdrive⟩
    rcases hst with hst | hst | hst | hst <;> rw [hst] <;> rfl

/-- Settles O8: time goes on to the edge, and the edge is the own one, a frame start, or an early strobe. -/
theorem strobeEdgeByElapsedTime : Obligations.StrobeEdgeByElapsedTime := by
  intro reading s d u holds
  have hedge : exec (.wbStrobeEdge reading) s = .next (s.advance d).endPulse.strobeEdge := rfl
  have hguard : u.insideGuard = decide (max reading s.timer.elapsed < 28 * s.timer.period.toNat) := s.insideGuard_advance reading false
  rw [hedge]
  refine ⟨fun hunseen => ?_, fun hloop hnot => ?_⟩
  · rcases hunseen with hholds | ⟨hloop, hdrive⟩
    · rw [State.endPulse_holds hholds, State.strobeEdge_unseen (s := s.advance d) (.inr hholds.1)]
    · rw [State.endPulse_idle hdrive, State.strobeEdge_unseen (s := s.advance d) (.inl hloop)]
  · have hu : (s.advance d).endPulse = u := State.endPulse_over hnot
    have hloopU : u.ctl.state ≠ .loopback := hloop
    rw [hu]
    refine ⟨fun hout => ?_, fun hno hin => ?_⟩
    · have hstart : u.strobeEdge = u.frameStart false := by
        refine State.strobeEdge_outside hloopU rfl (hout.imp id fun h => ?_)
        rw [hguard]
        exact decide_eq_false (Nat.not_lt.2 h)
      have h := u.frameStart_started false
      have hsame : u.frameStart false = (u.frameStart true).released u.timer.driveElapsed := u.frameStart_edge u.timer.driveElapsed
      rw [hstart]
      refine ⟨_, rfl, h.frame, h.elapsed, h.noGuard, h.period, h.openSlot, ?_, h.started, h.early, ⟨_, rfl, hsame⟩, h.bad⟩
      rw [hsame]
      rfl
    · rw [State.strobeEdge_inside hloopU rfl hno (by rw [hguard]; exact decide_eq_true hin), satInc_eq]
      rfl

end Sys2Proof.Proofs

/-! SUPPORT. The bytes of a message: fields, records, the body by its kind, the check field and the attempt that carries them (R2, R3, R190). -/

namespace Sys2Proof.Machine

/-! ### Fields of two bytes and of two nibbles -/

@[simp] theorem halfOf_halfBytes (h : Half) : halfOf (h.extractLsb' 0 8) (h.extractLsb' 8 8) = h := by
  apply BitVec.eq_of_getLsbD_eq
  intro i hi
  rw [halfOf, BitVec.getLsbD_append]
  by_cases hlow : i < 8
  · simp [hlow]
  · have hhigh : 8 + (i - 8) = i := by omega
    have hrest : i - 8 < 8 := by omega
    simp [hlow, hhigh, hrest]

/-- The low and the high half of a word made of two. -/
theorem extractLsb'_append_low {n : Nat} (low high : BitVec n) : (high ++ low).extractLsb' 0 n = low := by
  apply BitVec.eq_of_getLsbD_eq
  intro i hi
  simp [BitVec.getLsbD_append, hi]

theorem extractLsb'_append_high {n : Nat} (low high : BitVec n) : (high ++ low).extractLsb' n n = high := by
  apply BitVec.eq_of_getLsbD_eq
  intro i hi
  rw [BitVec.getLsbD_extractLsb', BitVec.getLsbD_append]
  simp [hi]

theorem halfBytes_halfOf (low high : Byte) : halfBytes (halfOf low high) = [low, high] := by
  rw [halfBytes, halfOf, extractLsb'_append_low, extractLsb'_append_high]

@[simp] theorem lowNibble_nibbles (low high : BitVec 4) : lowNibble (nibbles low high) = low := extractLsb'_append_low low high

@[simp] theorem highNibble_nibbles (low high : BitVec 4) : highNibble (nibbles low high) = high := extractLsb'_append_high low high

@[simp] theorem halfBytes_length (h : Half) : (halfBytes h).length = 2 := rfl

/-! ### Records (Table 13-3, R190) -/

theorem toList_of_cursorBytes (codes : CursorBytes) :
    codes.toList = [codes[0], codes[1], codes[2], codes[3], codes[4], codes[5], codes[6], codes[7]] := by
  apply List.ext_getElem
  · simp
  · intro i hi hi'
    have hlt : i < 8 := by simpa using hi
    interval_cases i <;> rfl

theorem cursorBytes_eta (codes : CursorBytes) :
    #v[codes[0], codes[1], codes[2], codes[3], codes[4], codes[5], codes[6], codes[7]] = codes := by
  apply Vector.toList_inj.1
  rw [toList_of_cursorBytes codes]
  rfl

/-- A record that the bus can carry is the one its bytes begin with. -/
theorem takeRecord_recordBytes {c : Change} (hc : c.carried) (eff : Frame) (rest : List Byte) :
    takeRecord (recordBytes c eff ++ rest) = some ((c, eff), rest) := by
  cases c with
  | palette i colour => simp [recordBytes, halfBytes, changeBytes, rgbBytes, takeRecord, kindCode, Change.kind]
  | cursorMove x y => simp [recordBytes, halfBytes, changeBytes, takeRecord, kindCode, Change.kind]
  | cursorLook v a b => simp [recordBytes, halfBytes, changeBytes, rgbBytes, takeRecord, kindCode, Change.kind]
  | cursorRow r codes =>
    simp [recordBytes, halfBytes, changeBytes, takeRecord, kindCode, Change.kind, toList_of_cursorBytes codes, cursorBytes_eta]
  | windowAbsent id => simp [recordBytes, halfBytes, changeBytes, takeRecord, kindCode, Change.kind]
  | windowPresent id flag w =>
    have hflag : ¬flag = 0#4 := hc
    simp [recordBytes, halfBytes, changeBytes, windowFieldBytes, takeRecord, kindCode, Change.kind, hflag]
  | background i => simp [recordBytes, halfBytes, changeBytes, takeRecord, kindCode, Change.kind]
  | showRec command argument => simp [recordBytes, halfBytes, changeBytes, takeRecord, kindCode, Change.kind]

theorem recordBytes_length_le (c : Change) (eff : Frame) : (recordBytes c eff).length ≤ 17 := by
  cases c <;> simp [recordBytes, changeBytes, rgbBytes, windowFieldBytes]

theorem records_length_le (records : List (Change × Frame)) :
    (records.flatMap fun r => recordBytes r.1 r.2).length ≤ 17 * records.length := by
  induction records with
  | nil => simp
  | cons r rs ih =>
    have hr := recordBytes_length_le r.1 r.2
    simp only [List.flatMap_cons, List.length_append, List.length_cons]
    omega

theorem walkRecords_succ {bytes : List Byte} (h : bytes ≠ []) (n : Nat) :
    walkRecords (n + 1) bytes =
      match takeRecord bytes with
      | none => none
      | some x => (walkRecords n x.2).map (x.1 :: ·) := by
  cases bytes with
  | nil => exact absurd rfl h
  | cons b rest =>
    rw [walkRecords]
    · cases takeRecord (b :: rest) <;> rfl
    · exact nofun

/-- The walk of a CHANGES body gives the records back (R190). -/
theorem walkRecords_flatMap {records : List (Change × Frame)} (h : ∀ r ∈ records, r.1.carried) {n : Nat} (hn : records.length ≤ n) :
    walkRecords n (records.flatMap fun r => recordBytes r.1 r.2) = some records := by
  induction records generalizing n with
  | nil => cases n <;> rfl
  | cons r rs ih =>
    obtain ⟨n, rfl⟩ : ∃ k, n = k + 1 := ⟨n - 1, by simp only [List.length_cons] at hn; omega⟩
    have hrest := ih (fun x hx => h x (List.mem_cons_of_mem _ hx)) (n := n) (by simpa using hn)
    have hhead := takeRecord_recordBytes (h r (List.mem_cons_self ..)) r.2 (rs.flatMap fun r => recordBytes r.1 r.2)
    have hne : recordBytes r.1 r.2 ++ (rs.flatMap fun r => recordBytes r.1 r.2) ≠ [] := by simp [recordBytes]
    rw [List.flatMap_cons, walkRecords_succ hne, hhead]
    simp [hrest]

/-! ### The body of a kind (Tables 2-1 and 13-2) -/

theorem Body.bytes_length_le {b : Body} {frame : Frame} (h : b.wellFormed frame) : b.bytes.length ≤ 68 := by
  cases b with
  | join reason => simp [Body.bytes]
  | leave f => simp [Body.bytes]
  | changes records =>
    obtain ⟨-, hcount, -⟩ := h
    have hle := records_length_le records
    simp only [Body.bytes]
    omega
  | part f index count data =>
    obtain ⟨-, hdata⟩ := h
    simp [Body.bytes]
    omega
  | idle => simp [Body.bytes]

theorem parseBody_leave (frame : Frame) (f0 f1 : Byte) :
    parseBody 2 frame [f0, f1] = if frameAfter (halfOf f0 f1) frame then some (.leave (halfOf f0 f1)) else none := rfl

theorem parseBody_changes (frame : Frame) (bytes : List Byte) :
    parseBody 3 frame bytes =
      match walkRecords Config.recordsPerMessage bytes with
      | some (r :: rs) => some (.changes (r :: rs))
      | _ => none := rfl

theorem parseBody_part (frame : Frame) (f0 f1 index count : Byte) (data : List Byte) :
    parseBody 4 frame (f0 :: f1 :: index :: count :: data) =
      if 1 ≤ data.length ∧ data.length ≤ 64 then some (.part (halfOf f0 f1) index count data) else none := rfl

/-- A well-formed body is the one its kind and bytes spell. -/
theorem parseBody_bytes {b : Body} {frame : Frame} (h : b.wellFormed frame) : parseBody b.kindByte frame b.bytes = some b := by
  cases b with
  | join reason =>
    cases reason with
    | none => exact absurd rfl h
    | new => rfl
    | resync => rfl
  | leave f =>
    have hafter : frameAfter f frame = true := h
    rw [Body.kindByte, Body.bytes, halfBytes, parseBody_leave, halfOf_halfBytes, if_pos hafter]
  | changes records =>
    obtain ⟨hone, hfour, hcarried⟩ := h
    rw [Body.kindByte, Body.bytes, parseBody_changes, Config.recordsPerMessage, walkRecords_flatMap hcarried hfour]
    cases records with
    | nil => simp at hone
    | cons r rs => rfl
  | part f index count data =>
    have hlen : 1 ≤ data.length ∧ data.length ≤ 64 := h
    have hparse := parseBody_part frame (f.extractLsb' 0 8) (f.extractLsb' 8 8) index count data
    rw [halfOf_halfBytes, if_pos hlen] at hparse
    exact hparse
  | idle => rfl

/-- A record that was taken from bytes is one that the bus can carry. -/
theorem carried_of_takeRecord {bytes : List Byte} {c : Change} {eff : Frame} {rest : List Byte}
    (h : takeRecord bytes = some ((c, eff), rest)) : c.carried := by
  unfold takeRecord at h
  dsimp only at h
  repeat' split at h
  all_goals cases h
  all_goals simp only [Change.carried]
  assumption

theorem walkRecords_some {n : Nat} {bytes : List Byte} {records : List (Change × Frame)} (h : walkRecords n bytes = some records) :
    records.length ≤ n ∧ ∀ r ∈ records, r.1.carried := by
  induction n generalizing bytes records with
  | zero =>
    cases bytes with
    | nil => simp only [walkRecords, Option.some_inj] at h; simp [← h]
    | cons b rest => simp [walkRecords] at h
  | succ n ih =>
    cases bytes with
    | nil => simp only [walkRecords, Option.some_inj] at h; simp [← h]
    | cons b rest =>
      rw [walkRecords_succ (by simp)] at h
      cases htake : takeRecord (b :: rest) with
      | none => simp [htake] at h
      | some x =>
        obtain ⟨⟨c, eff⟩, after⟩ := x
        simp only [htake, Option.map_eq_some_iff] at h
        obtain ⟨rs, hrs, rfl⟩ := h
        obtain ⟨hlen, hcarried⟩ := ih hrs
        refine ⟨by simpa using hlen, fun r hr => ?_⟩
        rcases List.mem_cons.1 hr with rfl | hr
        · exact carried_of_takeRecord htake
        · exact hcarried r hr

/-- A body that passes the checks of its kind is well formed. -/
theorem wellFormed_of_parseBody {kind : Byte} {frame : Frame} {body : List Byte} {b : Body} (h : parseBody kind frame body = some b) :
    b.wellFormed frame := by
  unfold parseBody at h
  generalize kind.toNat = n at h
  match n, body, h with
  | 1, [r], h =>
    have hjoin : (if r = 1 then some (Body.join .new) else if r = 2 then some (.join .resync) else none) = some b := h
    split at hjoin
    · cases hjoin; exact JoinReason.noConfusion
    · split at hjoin
      · cases hjoin; exact JoinReason.noConfusion
      · cases hjoin
  | 2, [f0, f1], h =>
    have hleave : (if frameAfter (halfOf f0 f1) frame then some (Body.leave (halfOf f0 f1)) else none) = some b := h
    split at hleave
    case isTrue hafter => cases hleave; exact hafter
    case isFalse => cases hleave
  | 3, bytes, h =>
    have hchanges : (match walkRecords Config.recordsPerMessage bytes with
      | some (r :: rs) => some (.changes (r :: rs))
      | _ => none) = some b := h
    split at hchanges
    case h_1 r rs hwalk =>
      cases hchanges
      obtain ⟨hlen, hcarried⟩ := walkRecords_some hwalk
      exact ⟨by simp, hlen, hcarried⟩
    case h_2 => cases hchanges
  | 4, f0 :: f1 :: index :: count :: data, h =>
    have hpart : (if 1 ≤ data.length ∧ data.length ≤ 64 then some (Body.part (halfOf f0 f1) index count data) else none) = some b := h
    split at hpart
    case isTrue hlen => cases hpart; exact hlen
    case isFalse => cases hpart
  | 5, [], h => cases h; trivial

end Sys2Proof.Machine

/-! SUPPORT. The message check, the attempt that carries a message, and the check field bit by bit (R2, R3). -/

namespace Sys2Proof.Machine

/-! ### The message check (R3) -/

theorem messageCore_eq (m : Message) :
    messageCore m =
      nibbles (BitVec.ofNat 4 m.sender.val) ((stationCode m.state).setWidth 4) :: m.body.kindByte :: m.frame.extractLsb' 0 8 ::
        m.frame.extractLsb' 8 8 :: m.members.extractLsb' 0 8 :: m.members.extractLsb' 8 8 :: m.mark ::
        BitVec.ofNat 8 m.body.bytes.length :: m.body.bytes := rfl

theorem messageCore_length (m : Message) : (messageCore m).length = m.body.bytes.length + 8 := by
  rw [messageCore_eq]
  rfl

theorem messageBytes_eq (m : Message) :
    messageBytes m =
      nibbles (BitVec.ofNat 4 m.sender.val) ((stationCode m.state).setWidth 4) :: m.body.kindByte :: m.frame.extractLsb' 0 8 ::
        m.frame.extractLsb' 8 8 :: m.members.extractLsb' 0 8 :: m.members.extractLsb' 8 8 :: m.mark ::
        BitVec.ofNat 8 m.body.bytes.length :: (m.body.bytes ++ halfBytes (crc16 (messageCore m))) := rfl

theorem messageBytes_length (m : Message) : (messageBytes m).length = m.body.bytes.length + 10 := by
  rw [messageBytes, List.length_append, messageCore_length]
  rfl

/-- The state bits of the first byte (Table 13-1). -/
theorem stateBits_nibbles (low : BitVec 4) (st : StationState) :
    (nibbles low ((stationCode st).setWidth 4)).extractLsb' 4 3 = stationCode st := by
  cases st <;> revert low <;> decide

theorem headByte_eq (p : Position) (st : StationState) :
    nibbles (BitVec.ofNat 4 p.val) ((stationCode st).setWidth 4) = BitVec.ofNat 8 (p.val + 16 * (stationCode st).toNat) := by
  cases st <;> revert p <;> decide

/-- The checks 1 to 6 of R3 on the bytes of a header and what follows it. -/
theorem parseMessage_cons (slot : Position) (b0 kind f0 f1 m0 m1 mark len : Byte) (rest : List Byte) :
    parseMessage slot (b0 :: kind :: f0 :: f1 :: m0 :: m1 :: mark :: len :: rest) =
      if len.toNat ≤ Config.maxBody ∧ rest.length = len.toNat + 2 ∧
          rest.drop len.toNat =
            halfBytes (crc16 ((b0 :: kind :: f0 :: f1 :: m0 :: m1 :: mark :: len :: rest).take (8 + len.toNat))) ∧
          (lowNibble b0).toNat = slot.val then
        match parseBody kind (halfOf f0 f1) (rest.take len.toNat) with
        | none => none
        | some b =>
          if b0.extractLsb' 4 3 = stationCode b.senderState ∧ inSet (halfOf m0 m1) slot = (b.senderState == .member) then
            some ⟨slot, b.senderState, halfOf f0 f1, halfOf m0 m1, mark, b⟩
          else none
      else none := rfl

/-- The bytes of a well-formed message pass the check in its sender's slot, and spell it (R3). -/
theorem parseMessage_messageBytes {m : Message} (h : m.wellFormed) : parseMessage m.sender (messageBytes m) = some m := by
  obtain ⟨hstate, hmembers, hbody⟩ := h
  have hlen := m.body.bytes_length_le hbody
  have hcount : (BitVec.ofNat 8 m.body.bytes.length).toNat = m.body.bytes.length := by
    rw [BitVec.toNat_ofNat]
    omega
  have hsender : (lowNibble (nibbles (BitVec.ofNat 4 m.sender.val) ((stationCode m.state).setWidth 4))).toNat = m.sender.val := by
    rw [lowNibble_nibbles, BitVec.toNat_ofNat]
    exact Nat.mod_eq_of_lt m.sender.isLt
  have hset : inSet m.members m.sender = (m.body.senderState == .member) := by
    rw [Bool.eq_iff_iff, hmembers, hstate, beq_iff_eq]
  have hmax : m.body.bytes.length ≤ Config.maxBody := hlen.trans (by decide)
  have hcore : (messageBytes m).take (8 + m.body.bytes.length) = messageCore m := by
    rw [messageBytes, Nat.add_comm, ← messageCore_length, List.take_left]
  rw [messageBytes_eq] at hcore
  have hchecks : m.body.bytes.length ≤ Config.maxBody ∧
      (m.body.bytes ++ halfBytes (crc16 (messageCore m))).length = m.body.bytes.length + 2 ∧
      (m.body.bytes ++ halfBytes (crc16 (messageCore m))).drop m.body.bytes.length = halfBytes (crc16 (messageCore m)) ∧
      (lowNibble (nibbles (BitVec.ofNat 4 m.sender.val) ((stationCode m.state).setWidth 4))).toNat = m.sender.val :=
    ⟨hmax, by simp, List.drop_left, hsender⟩
  rw [messageBytes_eq, parseMessage_cons, hcount, hcore, if_pos hchecks, List.take_left, halfOf_halfBytes, halfOf_halfBytes,
    parseBody_bytes hbody]
  have hbits : (nibbles (BitVec.ofNat 4 m.sender.val) ((stationCode m.state).setWidth 4)).extractLsb' 4 3 =
      stationCode m.body.senderState := (stateBits_nibbles _ _).trans (congrArg stationCode hstate)
  simp only [← hstate] at hbits hset ⊢
  rw [if_pos ⟨hbits, hset⟩]

/-- What passes the check of a slot is a well-formed message of that slot's position, with its check field at the end (R3, R4). -/
theorem parseMessage_some {slot : Position} {bytes : List Byte} {m : Message} (h : parseMessage slot bytes = some m) :
    m.sender = slot ∧ m.wellFormed ∧
      ∃ n, bytes.length = n + 10 ∧ bytes.drop (n + 8) = halfBytes (crc16 (bytes.take (n + 8))) := by
  match bytes, h with
  | b0 :: kind :: f0 :: f1 :: m0 :: m1 :: mark :: len :: rest, h =>
    rw [parseMessage_cons] at h
    split at h
    case isFalse => cases h
    case isTrue hchecks =>
      obtain ⟨-, hlen, hcrc, -⟩ := hchecks
      cases hparse : parseBody kind (halfOf f0 f1) (rest.take len.toNat) with
      | none => simp [hparse] at h
      | some b =>
        simp only [hparse] at h
        split at h
        case isFalse => cases h
        case isTrue hset =>
          cases h
          refine ⟨rfl, ⟨rfl, ?_, wellFormed_of_parseBody hparse⟩, len.toNat, by simp [hlen], ?_⟩
          · rw [hset.2, beq_iff_eq]
          · rw [Nat.add_comm 8] at hcrc
            exact hcrc

/-- Another check field than the one of the bytes before it does not pass (check 1 of R3). -/
theorem parseMessage_of_wrong_check {slot : Position} {core check : List Byte} (hlen : check.length = 2)
    (hcheck : check ≠ halfBytes (crc16 core)) : parseMessage slot (core ++ check) = none := by
  by_contra hne
  obtain ⟨m, hm⟩ := Option.ne_none_iff_exists'.1 hne
  obtain ⟨-, -, n, htotal, hcrc⟩ := parseMessage_some hm
  have hcore : core.length = n + 8 := by
    rw [List.length_append, hlen] at htotal
    omega
  rw [← hcore, List.drop_left, List.take_left] at hcrc
  exact hcheck hcrc

/-! ### The attempt (R2) -/

theorem attemptEnd_short {bytes : List Byte} (h : bytes.length < 8) : attemptEnd bytes = .unfinished := by
  have hnone : bytes[7]? = none := List.getElem?_eq_none (by omega)
  simp [attemptEnd, hnone]

theorem attemptEnd_long {bytes : List Byte} {n : Byte} (h : bytes[7]? = some n) (hmax : 72 < n.toNat) : attemptEnd bytes = .invalid := by
  simp [attemptEnd, h, Config.maxBody, hmax]

theorem attemptEnd_part {bytes : List Byte} {n : Byte} (h : bytes[7]? = some n) (hmax : n.toNat ≤ 72) (hlen : bytes.length < n.toNat + 10) :
    attemptEnd bytes = .unfinished := by
  have hvalid : ¬72 < n.toNat := by omega
  have hmore : ¬8 + n.toNat + 2 ≤ bytes.length := by omega
  simp [attemptEnd, h, Config.maxBody, hvalid, hmore]

theorem attemptEnd_whole {bytes : List Byte} {n : Byte} (h : bytes[7]? = some n) (hmax : n.toNat ≤ 72) (hlen : n.toNat + 10 ≤ bytes.length) :
    attemptEnd bytes = .complete := by
  have hvalid : ¬72 < n.toNat := by omega
  have hall : 8 + n.toNat + 2 ≤ bytes.length := by omega
  simp [attemptEnd, h, Config.maxBody, hvalid, hall]

/-- Bytes taken one by one while the attempt goes on. -/
theorem takeBytes_unfinished {buffer bytes : List Byte}
    (h : ∀ k, 1 ≤ k → k ≤ bytes.length → attemptEnd (buffer ++ bytes.take k) = .unfinished) :
    takeBytes buffer bytes = (buffer ++ bytes, .unfinished) := by
  induction bytes generalizing buffer with
  | nil => simp [takeBytes]
  | cons b rest ih =>
    have hfirst : attemptEnd (buffer ++ [b]) = .unfinished := by simpa using h 1 (by simp) (by simp)
    have hrest : takeBytes (buffer ++ [b]) rest = (buffer ++ [b] ++ rest, .unfinished) := by
      refine ih fun k hk hle => ?_
      have hnext := h (k + 1) (by omega) (by simpa using hle)
      simpa using hnext
    rw [takeBytes, hfirst]
    simpa using hrest

/-- Bytes behind an attempt that goes on are taken from where it stands. -/
theorem takeBytes_append {buffer a : List Byte} (h : takeBytes buffer a = (buffer ++ a, .unfinished)) (b : List Byte) :
    takeBytes buffer (a ++ b) = takeBytes (buffer ++ a) b := by
  induction a generalizing buffer with
  | nil => simp
  | cons x rest ih =>
    rw [takeBytes] at h
    rw [List.cons_append, takeBytes]
    cases hend : attemptEnd (buffer ++ [x]) with
    | unfinished =>
      simp only [hend] at h ⊢
      have hrest := ih (buffer := buffer ++ [x]) (by simpa using h)
      simpa using hrest
    | invalid => simp [hend] at h
    | complete => simp [hend] at h

/-- The byte that ends the attempt is the last one taken. -/
theorem takeBytes_ends {buffer : List Byte} {b : Byte} (rest : List Byte) (h : attemptEnd (buffer ++ [b]) ≠ .unfinished) :
    takeBytes buffer (b :: rest) = (buffer ++ [b], attemptEnd (buffer ++ [b])) := by
  rw [takeBytes]
  cases hend : attemptEnd (buffer ++ [b]) with
  | unfinished => exact absurd hend h
  | invalid => rfl
  | complete => rfl

/-- The bytes taken from the front, where the attempt ends with byte `k`. -/
theorem takeBytes_take {bytes : List Byte} {k : Nat} (hk : 1 ≤ k) (hle : k ≤ bytes.length)
    (hbefore : ∀ j, 1 ≤ j → j < k → attemptEnd (bytes.take j) = .unfinished) (hend : attemptEnd (bytes.take k) ≠ .unfinished) :
    takeBytes [] bytes = (bytes.take k, attemptEnd (bytes.take k)) := by
  obtain ⟨k, rfl⟩ : ∃ j, k = j + 1 := ⟨k - 1, by omega⟩
  have hsplit : bytes = bytes.take k ++ bytes[k] :: bytes.drop (k + 1) := by
    rw [List.getElem_cons_drop, List.take_append_drop]
  have hgoes : takeBytes [] (bytes.take k) = ([] ++ bytes.take k, .unfinished) := by
    refine takeBytes_unfinished fun j hj hlen => ?_
    rw [List.length_take] at hlen
    rw [List.nil_append, List.take_take, Nat.min_eq_left (by omega)]
    exact hbefore j hj (by omega)
  have hlast : bytes.take k ++ [bytes[k]] = bytes.take (k + 1) := List.take_concat_get' bytes k (by omega)
  have htake := takeBytes_append hgoes (bytes[k] :: bytes.drop (k + 1))
  rw [← hsplit, List.nil_append] at htake
  rw [htake, takeBytes_ends _ (by rwa [hlast]), hlast]

theorem takeRun_of_unfinished {buffer bytes buf : List Byte} (stopBit : Bool) (h : takeBytes buffer bytes = (buf, .unfinished)) :
    takeRun buffer bytes stopBit = (buf, if stopBit then .unfinished else .invalid) := by
  rw [takeRun, h]

theorem takeRun_of_ended {buffer bytes buf : List Byte} {e : AttemptEnd} (stopBit : Bool) (h : takeBytes buffer bytes = (buf, e))
    (he : e ≠ .unfinished) : takeRun buffer bytes stopBit = (buf, e) := by
  rw [takeRun, h]
  cases e with
  | unfinished => exact absurd rfl he
  | invalid => rfl
  | complete => rfl

/-- A run that stops before the length byte leaves the attempt open (R2). -/
theorem takeRun_short {bytes : List Byte} (stopBit : Bool) (h : bytes.length < 8) :
    takeRun [] bytes stopBit = (bytes, if stopBit then .unfinished else .invalid) := by
  refine takeRun_of_unfinished stopBit (takeBytes_unfinished fun k _ _ => attemptEnd_short ?_)
  simp only [List.nil_append, List.length_take]
  omega

theorem take_getElem?_seven {bytes : List Byte} {n : Byte} (h : bytes[7]? = some n) {k : Nat} (hk : 8 ≤ k) : (bytes.take k)[7]? = some n := by
  rw [List.getElem?_take_of_lt (by omega), h]

/-- Before the length byte and, with a length up to 72, before the last byte the attempt goes on (R2). -/
theorem attemptEnd_take {bytes : List Byte} {n : Byte} (h : bytes[7]? = some n) {k : Nat} (hk : k < 8 ∨ (n.toNat ≤ 72 ∧ k < n.toNat + 10)) :
    attemptEnd (bytes.take k) = .unfinished := by
  have hlen : (bytes.take k).length ≤ k := by simp
  by_cases hshort : k < 8
  · exact attemptEnd_short (by omega)
  · obtain ⟨hmax, hpart⟩ := hk.resolve_left hshort
    exact attemptEnd_part (take_getElem?_seven h (by omega)) hmax (by omega)

theorem takeRun_long {bytes : List Byte} {n : Byte} (stopBit : Bool) (h : bytes[7]? = some n) (hmax : 72 < n.toNat) :
    takeRun [] bytes stopBit = (bytes.take 8, .invalid) := by
  have hlen : 8 ≤ bytes.length := (List.getElem?_eq_some_iff.1 h).1
  have hend : attemptEnd (bytes.take 8) = .invalid := attemptEnd_long (take_getElem?_seven h le_rfl) hmax
  have htake := takeBytes_take (k := 8) (by omega) hlen (fun j _ hj => attemptEnd_take h (.inl hj)) (by simp [hend])
  rw [hend] at htake
  exact takeRun_of_ended stopBit htake (by simp)

theorem takeRun_part {bytes : List Byte} {n : Byte} (stopBit : Bool) (h : bytes[7]? = some n) (hmax : n.toNat ≤ 72)
    (hlen : bytes.length < n.toNat + 10) : takeRun [] bytes stopBit = (bytes, if stopBit then .unfinished else .invalid) := by
  refine takeRun_of_unfinished stopBit (takeBytes_unfinished fun k _ hk => ?_)
  exact attemptEnd_take h (.inr ⟨hmax, by omega⟩)

theorem takeRun_whole {bytes : List Byte} {n : Byte} (stopBit : Bool) (h : bytes[7]? = some n) (hmax : n.toNat ≤ 72)
    (hlen : n.toNat + 10 ≤ bytes.length) : takeRun [] bytes stopBit = (bytes.take (n.toNat + 10), .complete) := by
  have hend : attemptEnd (bytes.take (n.toNat + 10)) = .complete :=
    attemptEnd_whole (take_getElem?_seven h (by omega)) hmax (by rw [List.length_take]; omega)
  have htake := takeBytes_take (k := n.toNat + 10) (by omega) hlen (fun j _ hj => attemptEnd_take h (.inr ⟨hmax, hj⟩)) (by simp [hend])
  rw [hend] at htake
  exact takeRun_of_ended stopBit htake (by simp)

/-- The attempt that carries a well-formed message ends complete with its last byte (R2). -/
theorem takeRun_messageBytes {m : Message} (h : m.wellFormed) : takeRun [] (messageBytes m) true = (messageBytes m, .complete) := by
  obtain ⟨-, -, hbody⟩ := h
  have hlen := m.body.bytes_length_le hbody
  have hcount : (BitVec.ofNat 8 m.body.bytes.length).toNat = m.body.bytes.length := by
    rw [BitVec.toNat_ofNat]
    omega
  have htotal := messageBytes_length m
  have hwhole := takeRun_whole (bytes := messageBytes m) (n := BitVec.ofNat 8 m.body.bytes.length) true rfl (by omega) (by omega)
  rwa [hcount, ← htotal, List.take_length] at hwhole

/-! ### The check field bit by bit (R3) -/

/-- One bit of the message comes into the CRC. -/
def crcBitIn (crc : BitVec 16) (bit : Bool) : BitVec 16 := if (crc.msb != bit) = true then (crc <<< 1) ^^^ 0x1021 else crc <<< 1

/-- The bits above the CRC come into it one after the other, from the highest on. -/
theorem crcBit_xor (crc x : BitVec 16) : crcBit (crc ^^^ x) = crcBitIn crc x.msb ^^^ (x <<< 1) := by
  rw [crcBit, crcBitIn, BitVec.msb_xor, BitVec.shiftLeft_xor_distrib]
  split
  · rw [BitVec.xor_assoc, BitVec.xor_assoc, BitVec.xor_comm (x <<< 1)]
    rfl
  · rfl

theorem crcBits_xor (n : Nat) (crc x : BitVec 16) :
    crcBits n (crc ^^^ x) = (List.range n).foldl (fun c i => crcBitIn c (x <<< i).msb) crc ^^^ (x <<< n) := by
  induction n generalizing crc x with
  | zero => simp [crcBits]
  | succ n ih =>
    rw [crcBits, crcBit_xor, ih, List.range_succ_eq_map, List.foldl_cons, List.foldl_map]
    simp only [← BitVec.shiftLeft_add, Nat.add_comm 1, BitVec.shiftLeft_zero]

theorem crcByte_eq (crc : BitVec 16) (b : Byte) :
    crcByte crc b = (List.range 8).foldl (fun c i => crcBitIn c (b.getMsbD i)) crc := by
  have hmsb : ∀ b : Byte, ∀ i < 8, ((b.setWidth 16 <<< 8) <<< i).msb = b.getMsbD i := by decide +kernel
  have hend : (b.setWidth 16 <<< 8) <<< 8 = 0#16 := by revert b; decide +kernel
  rw [crcByte, crcBits_xor, hend, BitVec.xor_zero]
  refine List.foldl_ext _ _ _ fun c i hi => ?_
  rw [hmsb b i (List.mem_range.1 hi)]

end Sys2Proof.Machine

namespace Sys2Proof.Proofs

open Sys2Proof Sys2Proof.Machine

/-- Settles O14: the message check, the attempt and the layout, each by its own equation. -/
theorem messageBytesDecodeToMessage : Obligations.MessageBytesDecodeToMessage := by
  refine ⟨fun m hm => ⟨parseMessage_messageBytes hm, takeRun_messageBytes hm⟩, fun m hm => ⟨messageBytes_length m, ?_⟩, fun m => ?_,
    fun c eff => ?_, ⟨rfl, rfl, rfl, rfl, rfl, rfl, rfl⟩, rfl, fun bytes b => ?_⟩
  · have hlen := m.body.bytes_length_le hm.2.2
    rw [messageBytes_length]
    omega
  · refine ⟨rfl, ?_, ?_⟩
    · rw [messageCore_eq, headByte_eq]
      cases m.body <;> rfl
    · cases m.body <;> rfl
  · cases c <;> rfl
  · rw [crc16, List.foldl_append, List.foldl_cons, List.foldl_nil, crcByte_eq]
    rfl

/-- Settles O15: what `parseMessage_some` gives of a message that passes. -/
theorem validMessageIsWellFormed : Obligations.ValidMessageIsWellFormed := by
  refine ⟨fun k bytes m h => ?_, fun k core check hlen hcheck => parseMessage_of_wrong_check hlen hcheck⟩
  obtain ⟨hsender, hwell, -⟩ := parseMessage_some h
  exact ⟨hsender, hwell⟩

end Sys2Proof.Proofs

/-! SUPPORT. The receiver: when it takes bytes, what a run of bytes does, and messages that are not delivered (R2, R5, R6, R9). -/

namespace Sys2Proof.Machine

/-! ### When the receiver takes bytes (R2, R6) -/

theorem State.attemptLive_iff (s : State) : s.attemptLive = true ↔ s.bus.attempt = .waiting ∨ s.bus.attempt = .receiving := by
  simp [State.attemptLive]

theorem State.receives_iff (s : State) :
    s.receives = true ↔ s.ctl.state ≠ .loopback ∧ (s.timer.openSlot = some s.own → transmits s.ctl.state = false) ∧ s.attemptLive = true := by
  have hslot : s.readbackSlot = false ↔ (s.timer.openSlot = some s.own → transmits s.ctl.state = false) := by
    rw [← Bool.not_eq_true, s.readbackSlot_iff, not_and, Bool.not_eq_true]
  rw [State.receives, Bool.and_eq_true, Bool.and_eq_true, bne_iff_ne, Bool.not_eq_true', hslot, and_assoc]

theorem State.collected_of_waiting {s : State} (h : s.bus.attempt = .waiting) : s.collected = [] := by
  simp [State.collected, h]

theorem State.receives_of_waiting {s : State} (hloop : s.ctl.state ≠ .loopback) (hatt : s.bus.attempt = .waiting)
    (hslot : s.timer.openSlot = some s.own → transmits s.ctl.state = false) : s.receives = true :=
  s.receives_iff.2 ⟨hloop, hslot, s.attemptLive_iff.2 (.inl hatt)⟩

theorem effect_messageReceived {bytes : List Byte} {stopBit : Bool} {s : State} (h : s.receives = true) :
    effect (.messageReceived bytes stopBit) s =
      s.receiveRun (takeRun s.collected bytes stopBit).1 (takeRun s.collected bytes stopBit).2 :=
  if_pos h

theorem effect_messageReceived_deaf {bytes : List Byte} {stopBit : Bool} {s : State} (h : s.receives = false) :
    effect (.messageReceived bytes stopBit) s = s :=
  if_neg (by simp [h])

theorem effect_readback {bytes : List Byte} {stopBit : Bool} {s : State} (hpair : s.bus.awaiting = .pair) (hlive : s.attemptLive = true) :
    effect (.readback bytes stopBit) s =
      s.readbackRun (takeRun s.collected bytes stopBit).1 (takeRun s.collected bytes stopBit).2 :=
  if_pos ⟨hpair, hlive⟩

theorem effect_readback_deaf {bytes : List Byte} {stopBit : Bool} {s : State} (h : ¬(s.bus.awaiting = .pair ∧ s.attemptLive = true)) :
    effect (.readback bytes stopBit) s = s :=
  if_neg h

/-- A run that leaves the attempt open, in the bytes taken one by one. -/
theorem takeBytes_of_takeRun {buffer a buf : List Byte} (h : takeRun buffer a true = (buf, .unfinished)) :
    takeBytes buffer a = (buf, .unfinished) := by
  cases hbytes : takeBytes buffer a with
  | mk b e =>
    cases e with
    | unfinished => rw [takeRun, hbytes] at h; simpa using h
    | invalid => rw [takeRun, hbytes] at h; cases h
    | complete => rw [takeRun, hbytes] at h; cases h

/-- Two runs, the first of which leaves the attempt open, collect what one run of all the bytes does. -/
theorem takeRun_append {buffer a : List Byte} (h : takeRun buffer a true = (buffer ++ a, .unfinished)) (b : List Byte) (stopBit : Bool) :
    takeRun buffer (a ++ b) stopBit = takeRun (buffer ++ a) b stopBit := by
  rw [takeRun, takeBytes_append (takeBytes_of_takeRun h), takeRun]

/-! ### What an attempt does that ends (R3, R5) -/

theorem State.countBad_eq {s : State} (h : s.ctl.state ≠ .loopback) :
    s.countBad = { s with bus.badMessages := if s.bus.badMessages = 255 then 255 else s.bus.badMessages + 1 } := by
  rw [State.countBad, if_neg h, satInc_eq]

/-- An attempt that ends complete without a valid message counts as a bad one (R3, R5). -/
theorem State.judgeAttempt_of_none {s : State} (h : ∀ k, s.timer.openSlot = some k → parseMessage k s.bus.rxBuffer = none) :
    s.judgeAttempt = s.countBad := by
  unfold State.judgeAttempt
  split
  · rfl
  · next k hk => rw [h k hk]

theorem State.judgeAttempt_of_some {s : State} {k : Position} {m : Message} (hslot : s.timer.openSlot = some k)
    (h : parseMessage k s.bus.rxBuffer = some m) : s.judgeAttempt = s.takeValid m := by
  simp only [State.judgeAttempt, hslot, h]

/-- A message that comes whole in a window is judged at once. -/
theorem effect_messageReceived_whole {m : Message} {s : State} (hm : m.wellFormed) (hslot : s.timer.openSlot = some m.sender)
    (hatt : s.bus.attempt = .waiting) (hreceives : s.receives = true) :
    effect (.messageReceived (messageBytes m) true) s =
      (s.setAttempt (messageBytes m) true).takeValid m := by
  rw [effect_messageReceived hreceives, State.collected_of_waiting hatt, takeRun_messageBytes hm]
  exact State.judgeAttempt_of_some (s := s.setAttempt (messageBytes m) true) hslot (parseMessage_messageBytes hm)

/-- In OFFLINE and FAULT a valid message is not delivered (R6, R9). -/
theorem State.takeValid_undelivered {s : State} (m : Message) (h : s.ctl.state = .offline ∨ s.ctl.state = .fault) : s.takeValid m = s := by
  have hlisten : s.ctl.state ≠ .listening := by rcases h with h | h <;> simp [h]
  have hdeliver : delivers s.ctl.state = false := by rcases h with h | h <;> rw [h] <;> rfl
  simp [State.takeValid, hlisten, hdeliver]

theorem State.takeValid_conflict {s : State} {m : Message} (hown : m.sender = s.own) (h : s.ctl.state = .listening) :
    s.takeValid m = s.enterFault .positionInUse := by
  rw [State.takeValid, if_pos hown, if_pos h]

end Sys2Proof.Machine

namespace Sys2Proof.Proofs

open Sys2Proof Sys2Proof.Machine

/-- Settles O16: the receiver's cases, and the points at which a run of bytes ends an attempt. -/
theorem messagesThatAreNotDelivered : Obligations.MessagesThatAreNotDelivered := by
  refine ⟨fun bytes stopBit s hloop hatt hslot hrun => ?_, fun m s hm hslot hatt hst => ?_, fun m s hm hown hslot hatt hst => ?_,
    fun bytes stopBit s hend => ?_, ?_, ?_⟩
  · refine congrArg Host.Outcome.next ?_
    change effect (.messageReceived bytes stopBit) s = _
    rw [effect_messageReceived (State.receives_of_waiting hloop hatt hslot), State.collected_of_waiting hatt]
    have hcounted (buffer : List Byte) : (s.setAttempt buffer true).countBad =
        { s with
          bus.rxBuffer := buffer, bus.attempt := .ended
          bus.badMessages := if s.bus.badMessages = 255 then 255 else s.bus.badMessages + 1 } :=
      State.countBad_eq (s := s.setAttempt buffer true) hloop
    rcases hrun with hinvalid | ⟨hcomplete, hnone⟩
    · rw [hinvalid]
      exact hcounted _
    · rw [hcomplete]
      exact (State.judgeAttempt_of_none (s := s.setAttempt _ true) hnone).trans (hcounted _)
  · have hloop : s.ctl.state ≠ .loopback := by rcases hst with h | h <;> simp [h]
    have hquiet : transmits s.ctl.state = false := by rcases hst with h | h <;> rw [h] <;> rfl
    refine congrArg Host.Outcome.next ?_
    change effect (.messageReceived (messageBytes m) true) s = _
    rw [effect_messageReceived_whole hm hslot hatt (State.receives_of_waiting hloop hatt fun _ => hquiet)]
    exact State.takeValid_undelivered (s := s.setAttempt (messageBytes m) true) m hst
  · have hloop : s.ctl.state ≠ .loopback := by simp [hst]
    have hquiet : transmits s.ctl.state = false := by rw [hst]; rfl
    refine ⟨effect (.messageReceived (messageBytes m) true) s, rfl, ?_⟩
    rw [effect_messageReceived_whole hm (hown ▸ hslot) hatt (State.receives_of_waiting hloop hatt fun _ => hquiet),
      State.takeValid_conflict (s := s.setAttempt (messageBytes m) true) hown hst]
    exact ⟨rfl, rfl, State.enterFault_sub _ _, rfl, rfl, rfl, rfl, rfl, rfl, rfl, rfl, rfl, rfl, rfl⟩
  · have hdead : s.attemptLive = false := by
      rw [Bool.eq_false_iff, ne_eq, s.attemptLive_iff]
      rcases hend with h | h <;> simp [h]
    have hdeaf : s.receives = false := by
      rw [Bool.eq_false_iff, ne_eq, s.receives_iff]
      simp [hdead]
    exact ⟨congrArg Host.Outcome.next (effect_messageReceived_deaf hdeaf),
      congrArg Host.Outcome.next (effect_readback_deaf (by simp [hdead]))⟩
  · intro a b stopBit s hlive before kept hrun
    have hcollected : s.collected = before := rfl
    have hkeptCollected : kept.collected = before ++ a := rfl
    have hboth := takeRun_append hrun b stopBit
    have hliveS : s.attemptLive = true := s.attemptLive_iff.2 hlive
    refine ⟨fun hloop hslot => ?_, fun hpair => ?_⟩
    · have hreceives : s.receives = true := s.receives_iff.2 ⟨hloop, hslot, hliveS⟩
      have hkept : kept.receives = true := kept.receives_iff.2 ⟨hloop, hslot, rfl⟩
      refine ⟨congrArg Host.Outcome.next ?_, congrArg Host.Outcome.next ?_⟩
      · change effect (.messageReceived a true) s = _
        rw [effect_messageReceived hreceives, hcollected, hrun]
        rfl
      · change effect (.messageReceived b stopBit) kept = effect (.messageReceived (a ++ b) stopBit) s
        rw [effect_messageReceived hkept, effect_messageReceived hreceives, hcollected, hkeptCollected, hboth]
        cases (takeRun (before ++ a) b stopBit).2 <;> rfl
    · refine ⟨congrArg Host.Outcome.next ?_, congrArg Host.Outcome.next ?_⟩
      · change effect (.readback a true) s = _
        rw [effect_readback hpair hliveS, hcollected, hrun]
        rfl
      · change effect (.readback b stopBit) kept = effect (.readback (a ++ b) stopBit) s
        rw [effect_readback (s := kept) hpair rfl, effect_readback hpair hliveS, hcollected, hkeptCollected, hboth]
        cases (takeRun (before ++ a) b stopBit).2 <;> rfl
  · intro bytes stopBit open'
    exact ⟨takeRun_short stopBit, fun n hn => ⟨takeRun_long stopBit hn, takeRun_part stopBit hn, takeRun_whole stopBit hn⟩⟩

end Sys2Proof.Proofs

/-! SUPPORT. The own-slot message: what it carries by the station state, its member set, and the records it takes (R10 to R13). -/

namespace Sys2Proof.Machine

/-! ### The member set (R10) -/

/-- The bits that a walk over the positions sets. -/
theorem inSet_foldl (P : Position → Prop) [DecidablePred P] (l : List Position) (set : BitVec 16) (p : Position) :
    inSet (l.foldl (fun set q => if P q then set ||| (1#16 <<< q.val) else set) set) p = true ↔ inSet set p = true ∨ (p ∈ l ∧ P p) := by
  have hbit (set : BitVec 16) (q : Position) : inSet (set ||| (1#16 <<< q.val)) p = true ↔ inSet set p = true ∨ p = q := by
    have hone : (1#16 <<< q.val).getLsbD p.val = decide (p = q) := by revert p q; decide +kernel
    rw [inSet, BitVec.getLsbD_or, hone, Bool.or_eq_true, decide_eq_true_eq]
    rfl
  induction l generalizing set with
  | nil => simp
  | cons q l ih =>
    rw [List.foldl_cons]
    refine (ih _).trans ?_
    by_cases hq : P q
    · rw [if_pos hq, hbit]
      constructor
      · rintro ((h | rfl) | ⟨h, hp⟩)
        · exact .inl h
        · exact .inr ⟨List.mem_cons_self .., hq⟩
        · exact .inr ⟨List.mem_cons_of_mem _ h, hp⟩
      · rintro (h | ⟨h, hp⟩)
        · exact .inl (.inl h)
        · rcases List.mem_cons.1 h with rfl | h
          · exact .inl (.inr rfl)
          · exact .inr ⟨h, hp⟩
    · rw [if_neg hq]
      grind

/-- The member set holds the positions whose entries are MEMBER (R10). -/
theorem State.inSet_memberSet (s : State) (p : Position) : inSet s.memberSet p = true ↔ (s.entry p).state = .member := by
  rw [State.memberSet, inSet_foldl (fun p => (s.entry p).state = .member)]
  simp [inSet]

theorem State.entry_member_iff (s : State) (p : Position) :
    (s.entry p).state = .member ↔
      if p = s.straps.pos then s.ctl.state = .member ∨ s.ctl.state = .loopback else s.roster[p].state = .member := by
  unfold State.entry State.own
  split
  · cases hst : s.ctl.state <;> simp [ownEntry, ownEntryState, hst]
  · rfl

/-! ### What the own slot sends (R10 to R13) -/

theorem effect_ownSlotOpen_ready {s : State} (h : s.ownSlotReady) (hst : buildsMessages s.ctl.state = true) :
    effect .ownSlotOpen s = s.buildOwnMessage := by
  obtain ⟨hguard, hopened, hslot⟩ := h
  have heffect : effect .ownSlotOpen s = s.openOwnWindow.sendOwnMessage := if_neg (by simp [hguard, hopened])
  have hopen : s.openOwnWindow = s := if_pos hslot
  rw [heffect, hopen, State.sendOwnMessage, if_pos hst]

/-- A body without records takes none from the queue. -/
theorem State.buildOwnMessage_of_no_records {s : State} (h : recordCount s.ownBody = 0) :
    s.buildOwnMessage =
      { s with
        bus.txBuffer := messageBytes s.ownMessage, bus.sending := transmits s.ctl.state, bus.sendElapsed := 0
        bus.awaiting := if s.ctl.state = .loopback then .looped else .pair, bus.alternation := alternationOf s.ownBody
        timer.ownOpened := true } := by
  simp [State.buildOwnMessage, h, numberRecords]

/-- The three choices of the arbiter in MEMBER and LOOPBACK (R12). -/
theorem State.ownBody_cases {s : State} (h : s.ctl.state = .member ∨ s.ctl.state = .loopback) :
    (s.ownBody = .changes ((s.sub.outbound.take 4).map fun r => (r.change, s.frameLead)) ∧ s.sub.outbound ≠ [] ∧
        (s.snap.streaming = true → s.bus.alternation = .part)) ∨
      (s.ownBody = s.nextPartBody ∧ s.snap.streaming = true ∧ (s.sub.outbound ≠ [] → s.bus.alternation ≠ .part)) ∨
      (s.ownBody = .idle ∧ s.sub.outbound = [] ∧ s.snap.streaming = false) := by
  have hbody : s.ownBody =
      match s.arbiter with
      | .changes => .changes (s.headRecords.map fun r => (r.change, s.frameLead))
      | .part => s.nextPartBody
      | .idle => .idle := by
    rcases h with h | h <;> simp only [State.ownBody, h] <;> rfl
  rw [hbody]
  unfold State.arbiter
  cases hqueue : s.sub.outbound with
  | nil => cases hstream : s.snap.streaming <;> simp [arbiterKind]
  | cons r rest =>
    cases hstream : s.snap.streaming with
    | false => simp [arbiterKind, State.headRecords, Config.recordsPerMessage, hqueue]
    | true =>
      by_cases hpart : s.bus.alternation = .part <;>
        simp [arbiterKind, hpart, State.headRecords, Config.recordsPerMessage, hqueue]

/-- A CHANGES message takes the head records, numbers them and leaves the rest waiting (R13). -/
theorem State.buildOwnMessage_changes {s : State}
    (h : s.ownBody = .changes ((s.sub.outbound.take 4).map fun r => (r.change, s.frameLead))) :
    s.buildOwnMessage.sub.outbound =
        ((s.sub.outbound.take 4).mapIdx fun i r => ⟨r.change, .beingSent (s.sub.ownSeq + BitVec.ofNat 8 i) s.frameLead⟩) ++
          s.sub.outbound.drop 4 ∧
      s.buildOwnMessage.sub.ownSeq = s.sub.ownSeq + BitVec.ofNat 8 (s.sub.outbound.take 4).length := by
  have hcount : recordCount s.ownBody = (s.sub.outbound.take 4).length := by rw [h]; simp [recordCount]
  have htake : s.sub.outbound.take (s.sub.outbound.take 4).length = s.sub.outbound.take 4 := by simp
  have hdrop : s.sub.outbound.drop (s.sub.outbound.take 4).length = s.sub.outbound.drop 4 := by simp
  constructor
  · simp only [State.buildOwnMessage, hcount]
    rw [htake, hdrop, numberRecords_eq]
  · simp only [State.buildOwnMessage, hcount]

end Sys2Proof.Machine

namespace Sys2Proof.Proofs

open Sys2Proof Sys2Proof.Machine

/-- Settles O9: JOIN and LEAVE carry no record; in MEMBER and LOOPBACK the arbiter chooses. -/
theorem ownSlotMessage : Obligations.OwnSlotMessage := by
  refine ⟨⟨fun s hready => ⟨fun hst => ?_, fun f hst hleave => ?_⟩, fun s p => (s.inSet_memberSet p).trans (s.entry_member_iff p)⟩,
    fun s hready hst => ?_⟩
  · have hbody : s.ownBody = .join s.ctl.joinReason := by simp only [State.ownBody, hst]
    refine congrArg Host.Outcome.next ((effect_ownSlotOpen_ready hready (by rw [hst]; rfl)).trans ?_)
    rw [State.buildOwnMessage_of_no_records (by rw [hbody]; rfl), State.ownMessage, hbody, hst]
    rfl
  · have hbody : s.ownBody = .leave f := by simp only [State.ownBody, hst, hleave, Option.getD_some]
    refine congrArg Host.Outcome.next ((effect_ownSlotOpen_ready hready (by rw [hst]; rfl)).trans ?_)
    rw [State.buildOwnMessage_of_no_records (by rw [hbody]; rfl), State.ownMessage, hbody, hst]
    rfl
  · have hbuilds : buildsMessages s.ctl.state = true := by rcases hst with h | h <;> rw [h] <;> rfl
    have hsender : s.ownBody.senderState = .member := by
      rcases s.ownBody_cases hst with ⟨h, -⟩ | ⟨h, -⟩ | ⟨h, -⟩ <;> rw [h] <;> rfl
    have hsending : transmits s.ctl.state = decide (s.ctl.state = .member) := by rcases hst with h | h <;> rw [h] <;> rfl
    have hawaiting : (if s.ctl.state = .loopback then Awaiting.looped else .pair) = if s.ctl.state = .member then .pair else .looped := by
      rcases hst with h | h <;> rw [h] <;> rfl
    refine ⟨effect .ownSlotOpen s, s.ownBody, rfl, ?_⟩
    rw [effect_ownSlotOpen_ready hready hbuilds]
    refine ⟨?_, hsending, hawaiting, ?_, rfl, rfl, rfl, rfl, rfl, rfl, rfl, rfl, rfl, rfl, rfl, rfl⟩
    · rw [← hsender]
      rfl
    · rcases s.ownBody_cases hst with ⟨hbody, hqueue, hflag⟩ | ⟨hbody, hstream, hflag⟩ | ⟨hbody, hqueue, hstream⟩
      · obtain ⟨hout, hseq⟩ := State.buildOwnMessage_changes hbody
        exact .inl ⟨hbody, congrArg alternationOf hbody, hout, hseq, hqueue, hflag⟩
      · have hsub : s.buildOwnMessage.sub = s.sub := by rw [State.buildOwnMessage_of_no_records (by rw [hbody]; rfl)]
        exact .inr (.inl ⟨hbody, congrArg alternationOf hbody, hsub, hstream, hflag⟩)
      · have hsub : s.buildOwnMessage.sub = s.sub := by rw [State.buildOwnMessage_of_no_records (by rw [hbody]; rfl)]
        exact .inr (.inr ⟨hbody, congrArg alternationOf hbody, hsub, hqueue, hstream⟩)

end Sys2Proof.Proofs

/-! SUPPORT. Records that arrive at the schedule one after the other, and a successful readback (R14, R15, R18, R81, R87, R89). -/

namespace Sys2Proof.Machine

/-! ### The window of a record that is sent now (R86) -/

theorem plusLead_sub (frame : Frame) (lead : Byte) : (plusLead frame lead - frame).toNat = lead.toNat := by
  have hlead := lead.isLt
  rw [plusLead, BitVec.add_comm, BitVec.add_sub_cancel, BitVec.toNat_setWidth, Nat.mod_eq_of_lt (by omega)]

theorem inWindow_plusLead (frame : Frame) (lead : Byte) : inWindow frame lead (plusLead frame lead) = true :=
  decide_eq_true (plusLead_sub frame lead)

theorem State.acceptRecord_room {r : HeldRecord} {s : State} (heff : r.eff = s.frameLead) (hroom : hasRoom r s.sched.list = true) :
    s.acceptRecord r = { s with sched.list := insertHeld r s.sched.list } := by
  have hwindow : inWindow s.timer.frame s.cfg.lead r.eff = true := by
    rw [heff]
    exact inWindow_plusLead _ _
  rw [State.acceptRecord, if_pos hwindow, if_pos hroom]

theorem State.acceptRecord_full {r : HeldRecord} {s : State} (heff : r.eff = s.frameLead) (hroom : ¬hasRoom r s.sched.list = true) :
    s.acceptRecord r = s.discardRecord r := by
  have hwindow : inWindow s.timer.frame s.cfg.lead r.eff = true := by
    rw [heff]
    exact inWindow_plusLead _ _
  rw [State.acceptRecord, if_pos hwindow, if_neg hroom]

/-- A discard of an own record outside LISTENING and JOINING gives its receipt alone (R87). -/
theorem State.discardRecord_settled {r : HeldRecord} {s : State} (hown : r.origin = s.own) (hlisten : s.ctl.state ≠ .listening)
    (hjoin : s.ctl.state ≠ .joining) : s.discardRecord r = s.addReceipts [receiptOf r .discardedFull] := by
  unfold State.discardRecord
  cases hst : s.ctl.state <;> simp_all

/-- In JOINING E_lost moves to the frame of the record that is lost, and a collection is abandoned (R87, R140). -/
theorem State.discardRecord_joining {r : HeldRecord} {s : State} {e : Frame} (hown : r.origin = s.own) (hst : s.ctl.state = .joining)
    (he : s.snap.eLost = some e) :
    s.discardRecord r =
      { s with
        sub.receipts := s.sub.receipts ++ [receiptOf r .discardedFull]
        snap.eLost := some (laterFrame e r.eff)
        snap.coll := if s.snap.coll = .collecting then .waiting else s.snap.coll
        events.wall.snapshotAbandoned := s.events.wall.snapshotAbandoned || s.snap.coll == .collecting } := by
  by_cases hcoll : s.snap.coll = .collecting
  · simp [State.discardRecord, hown, hst, State.abandon, State.addReceipts, hcoll, he]
  · have hother : (s.snap.coll == .collecting) = false := beq_eq_false_iff_ne.2 hcoll
    simp [State.discardRecord, hown, hst, State.abandon, State.addReceipts, hcoll, hother, he]

/-! ### Records that arrive one after the other -/

theorem State.acceptRecords_append (a b : List HeldRecord) (s : State) : s.acceptRecords (a ++ b) = (s.acceptRecords a).acceptRecords b :=
  List.foldl_append

theorem foldl_insertHeld_length (rs list : List HeldRecord) :
    (rs.foldl (fun l r => insertHeld r l) list).length = list.length + rs.length := by
  induction rs generalizing list with
  | nil => rfl
  | cons r rs ih =>
    rw [List.foldl_cons, ih, insertHeld_length, List.length_cons]
    omega

/-- While there is room, records of different numbers take their places in order (R81, R89). -/
theorem State.acceptRecords_room {rs : List HeldRecord} {s : State} (heff : ∀ r ∈ rs, r.eff = s.frameLead)
    (hroom : s.sched.list.length + rs.length ≤ 48) (hnodup : (rs.map fun r => r.seq).Nodup)
    (hnew : ∀ x ∈ s.sched.list, ∀ y ∈ rs, ¬(x.origin = y.origin ∧ x.seq = y.seq)) :
    s.acceptRecords rs = { s with sched.list := rs.foldl (fun l r => insertHeld r l) s.sched.list } := by
  induction rs generalizing s with
  | nil => rfl
  | cons r rs ih =>
    obtain ⟨hfresh, hrest⟩ := List.nodup_cons.1 hnodup
    have hhas : hasRoom r s.sched.list = true := by
      rw [hasRoom_iff]
      simp only [List.length_cons] at hroom
      exact ⟨by omega, fun x hx => hnew x hx r (List.mem_cons_self ..)⟩
    have hfirst := State.acceptRecord_room (heff r (List.mem_cons_self ..)) hhas
    have htail := ih (s := { s with sched.list := insertHeld r s.sched.list }) (fun x hx => heff x (List.mem_cons_of_mem _ hx))
      (by simp only [insertHeld_length]; simp only [List.length_cons] at hroom; omega) hrest
      (by
        intro x hx y hy hsame
        rcases (mem_insertHeld r x s.sched.list).1 hx with rfl | hx
        · exact hfresh (List.mem_map.2 ⟨y, hy, hsame.2.symm⟩)
        · exact hnew x hx y (List.mem_cons_of_mem _ hy) hsame)
    change (s.acceptRecord r).acceptRecords rs = _
    rw [hfirst, htail]
    rfl

/-- Own records that arrive at a full list outside LISTENING and JOINING all get DISCARDED_FULL (R87). -/
theorem State.acceptRecords_full {rs : List HeldRecord} {s : State} (heff : ∀ r ∈ rs, r.eff = s.frameLead)
    (hown : ∀ r ∈ rs, r.origin = s.own) (hfull : 48 ≤ s.sched.list.length) (hlisten : s.ctl.state ≠ .listening)
    (hjoin : s.ctl.state ≠ .joining) :
    s.acceptRecords rs = { s with sub.receipts := s.sub.receipts ++ rs.map fun r => receiptOf r .discardedFull } := by
  induction rs generalizing s with
  | nil => simp [State.acceptRecords]
  | cons r rs ih =>
    have hhas : ¬hasRoom r s.sched.list = true := by
      rw [hasRoom_iff]
      omega
    have hfirst : s.acceptRecord r = s.addReceipts [receiptOf r .discardedFull] :=
      (State.acceptRecord_full (heff r (List.mem_cons_self ..)) hhas).trans
        (State.discardRecord_settled (hown r (List.mem_cons_self ..)) hlisten hjoin)
    have htail := ih (s := s.addReceipts [receiptOf r .discardedFull]) (fun x hx => heff x (List.mem_cons_of_mem _ hx))
      (fun x hx => hown x (List.mem_cons_of_mem _ hx)) hfull hlisten hjoin
    change (s.acceptRecord r).acceptRecords rs = _
    rw [hfirst, htail]
    simp [State.addReceipts]

/-- The first records take their places while there is room, and the others find the list full (R87, R89). -/
theorem State.acceptRecords_split {rs : List HeldRecord} {s : State} (k : Nat) (heff : ∀ r ∈ rs, r.eff = s.frameLead)
    (hown : ∀ r ∈ rs, r.origin = s.own) (hroom : s.sched.list.length + (rs.take k).length ≤ 48)
    (hnodup : ((rs.take k).map fun r => r.seq).Nodup)
    (hnew : ∀ x ∈ s.sched.list, ∀ y ∈ rs.take k, ¬(x.origin = y.origin ∧ x.seq = y.seq))
    (hfull : k < rs.length → s.sched.list.length + k = 48 ∧ s.ctl.state ≠ .listening ∧ s.ctl.state ≠ .joining) :
    s.acceptRecords rs =
      { s with
        sched.list := (rs.take k).foldl (fun l r => insertHeld r l) s.sched.list
        sub.receipts := s.sub.receipts ++ (rs.drop k).map fun r => receiptOf r .discardedFull } := by
  have hfirst := State.acceptRecords_room (fun r hr => heff r (List.mem_of_mem_take hr)) hroom hnodup hnew
  have hparts := State.acceptRecords_append (rs.take k) (rs.drop k) s
  rw [List.take_append_drop, hfirst] at hparts
  rw [hparts]
  by_cases hk : k < rs.length
  · obtain ⟨hlen, hlisten, hjoin⟩ := hfull hk
    refine State.acceptRecords_full (fun r hr => heff r (List.mem_of_mem_drop hr)) (fun r hr => hown r (List.mem_of_mem_drop hr)) ?_
      hlisten hjoin
    change 48 ≤ ((rs.take k).foldl (fun l r => insertHeld r l) s.sched.list).length
    rw [foldl_insertHeld_length, List.length_take]
    omega
  · rw [List.drop_eq_nil_of_le (Nat.not_lt.1 hk)]
    simp [State.acceptRecords]

/-! ### The outbound queue as a message leaves it (R13, R15) -/

theorem sentRecords_append_waiting (own : Position) (q : List OutRecord) {rest : List OutRecord} (h : ∀ r ∈ rest, r.status = .waiting) :
    sentRecords own (q ++ rest) = sentRecords own q := by
  have hrest := sentRecords_of_waiting own rest h
  unfold sentRecords at hrest ⊢
  rw [List.filterMap_append, hrest, List.append_nil]

/-- The records of a message that is on its way, in body order. -/
theorem sentRecords_map (own : Position) (eff : Frame) (sent : List (Change × SeqNum)) :
    sentRecords own (sent.map fun x => ⟨x.1, .beingSent x.2 eff⟩) = sent.map fun x => ⟨x.1, eff, own, x.2⟩ := by
  induction sent with
  | nil => rfl
  | cons x sent ih =>
    unfold sentRecords at ih ⊢
    rw [List.map_cons, List.filterMap_cons, ih]
    rfl

theorem waitingRecords_map_append (eff : Frame) (sent : List (Change × SeqNum)) {rest : List OutRecord}
    (h : ∀ r ∈ rest, r.status = .waiting) :
    waitingRecords ((sent.map fun x => ⟨x.1, .beingSent x.2 eff⟩) ++ rest) = rest := by
  have hsent : waitingRecords (sent.map fun x => ⟨x.1, .beingSent x.2 eff⟩) = [] := by
    refine List.filter_eq_nil_iff.2 fun r hr => ?_
    obtain ⟨x, -, rfl⟩ := List.mem_map.1 hr
    exact Bool.false_ne_true
  have hrest := waitingRecords_of_waiting rest h
  unfold waitingRecords at hsent hrest ⊢
  rw [List.filter_append, hsent, hrest, List.nil_append]

/-! ### A successful readback (R14, R15) -/

/-- A PART that was sent is counted while the stream runs (R132). -/
theorem State.partSent_eq (s : State) :
    s.partSent =
      { s with
        snap.nextPart := if s.snap.streaming = true ∧ s.snap.nextPart < 18 then s.snap.nextPart + 1 else s.snap.nextPart
        snap.streaming := s.snap.streaming && !decide (18 ≤ s.snap.nextPart) } := by
  cases hstream : s.snap.streaming with
  | false =>
    have hself : s = { s with snap.streaming := s.snap.streaming } := rfl
    rw [hstream] at hself
    simpa [State.partSent, hstream] using hself
  | true =>
    by_cases hlast : s.snap.nextPart < 18
    · simp [State.partSent, hstream, hlast]
    · simp [State.partSent, hstream, hlast, Nat.not_lt.1 hlast]

/-- The state in which a successful readback's records arrive. -/
def State.settled (s : State) : State :=
  { s with bus.readback := .success, bus.runCount := 0, sub.outbound := waitingRecords s.sub.outbound }

theorem State.readbackSucceeded_of_no_part {s : State} (h : s.bus.alternation ≠ .part) :
    s.readbackSucceeded = s.settled.acceptRecords (sentRecords s.own s.sub.outbound) := by
  unfold State.readbackSucceeded
  simp only [if_neg h]
  rfl

theorem State.readbackSucceeded_of_waiting {s : State} (h : ∀ r ∈ s.sub.outbound, r.status = .waiting) :
    s.readbackSucceeded =
      { s with
        bus.readback := .success, bus.runCount := 0
        snap.nextPart := if s.bus.alternation = .part ∧ s.snap.streaming = true ∧ s.snap.nextPart < 18 then s.snap.nextPart + 1
          else s.snap.nextPart
        snap.streaming := s.snap.streaming && !(s.bus.alternation == .part && decide (18 ≤ s.snap.nextPart)) } := by
  unfold State.readbackSucceeded
  simp only [sentRecords_of_waiting s.own s.sub.outbound h, waitingRecords_of_waiting s.sub.outbound h, State.acceptRecords,
    List.foldl_nil]
  by_cases hpart : s.bus.alternation = .part
  · simp [hpart, State.partSent_eq]
  · have hother : (s.bus.alternation == .part) = false := beq_eq_false_iff_ne.2 hpart
    simp [hpart, hother]

/-- A success is entered and `rest` is what stays in the outbound queue (R15). -/
def State.leftWith (rest : List OutRecord) (s : State) : State :=
  { s with bus.readback := .success, bus.runCount := 0, sub.outbound := rest }

/-- A successful readback of a CHANGES message hands its records on in body order (R15, R89). -/
theorem State.readbackSucceeded_of_sent {s : State} {eff : Frame} {sent : List (Change × SeqNum)} {rest : List OutRecord}
    (hflag : s.bus.alternation = .changes)
    (hout : s.sub.outbound = (sent.map fun x => ⟨x.1, .beingSent x.2 eff⟩) ++ rest) (hrest : ∀ r ∈ rest, r.status = .waiting) :
    s.readbackSucceeded = (s.leftWith rest).acceptRecords (sent.map fun x => ⟨x.1, eff, s.own, x.2⟩) := by
  rw [State.readbackSucceeded_of_no_part (by simp [hflag]), State.settled, hout, sentRecords_append_waiting _ _ hrest, sentRecords_map,
    waitingRecords_map_append eff sent hrest, State.leftWith]

/-- The state of the bus when the readback's attempt has ended. -/
def State.heardBack (bytes : List Byte) (s : State) : State :=
  { s with bus.rxBuffer := bytes, bus.attempt := .ended, bus.awaiting := .none }

/-- The own message read back as it was sent is a success (R14). -/
theorem effect_readback_matched {m : Message} {s : State} (hm : m.wellFormed) (hown : m.sender = s.own)
    (hsent : s.bus.txBuffer = messageBytes m) (hpair : s.bus.awaiting = .pair) (hatt : s.bus.attempt = .waiting) :
    effect (.readback (messageBytes m) true) s = (s.heardBack (messageBytes m)).readbackSucceeded := by
  have hmatch : (s.setAttempt (messageBytes m) true).readbackMatches = true := by
    have hparse : parseMessage s.own (messageBytes m) = some m := hown ▸ parseMessage_messageBytes hm
    change ((messageBytes m == s.bus.txBuffer) && (parseMessage s.own (messageBytes m)).isSome) = true
    rw [hsent, hparse, beq_self_eq_true]
    rfl
  rw [effect_readback hpair (s.attemptLive_iff.2 (.inl hatt)), State.collected_of_waiting hatt, takeRun_messageBytes hm]
  change (s.setAttempt (messageBytes m) true).settleReadback true = _
  rw [State.settleReadback]
  simp only [hmatch, Bool.and_self, if_true]
  rfl

end Sys2Proof.Machine

/-! SUPPORT. The looped path and the close of a slot in LOOPBACK (R2, R8, R18). -/

namespace Sys2Proof.Machine

/-- Without a stream a success moves its records and counts no PART (R15, R132). -/
theorem State.readbackSucceeded_of_idle {s : State} (hlisten : s.ctl.state ≠ .listening) (hjoin : s.ctl.state ≠ .joining)
    (hstream : s.snap.streaming = false) : s.readbackSucceeded = s.settled.withRecords (sentRecords s.own s.sub.outbound) := by
  have hrecords : s.settled.acceptRecords (sentRecords s.own s.sub.outbound) = s.settled.withRecords (sentRecords s.own s.sub.outbound) :=
    State.acceptRecords_eq _ s.settled fun h => (h.elim hlisten hjoin).elim
  by_cases hpart : s.bus.alternation = .part
  · have hcounted : s.readbackSucceeded = (s.settled.acceptRecords (sentRecords s.own s.sub.outbound)).partSent := if_pos hpart
    rw [hcounted, hrecords]
    have hidle : (s.settled.withRecords (sentRecords s.own s.sub.outbound)).snap.streaming = false := hstream
    simp [State.partSent, hidle]
  · rw [State.readbackSucceeded_of_no_part hpart, hrecords]

/-- The state in which the looped message is heard. -/
def State.loopHeard (s : State) : State := { s with bus.awaiting := .none, bus.sending := false }

theorem effect_loopedHandover {s : State} (h : s.bus.awaiting = .looped) : effect .loopedHandover s = s.loopHeard.readbackSucceeded :=
  if_pos h

theorem effect_slotClose {k : Position} {s : State} (h : s.timer.openSlot = some k) : effect (.slotClose k) s = s.closeSlot k := if_pos h

theorem State.readbackSucceeded_sending (s : State) : s.readbackSucceeded.bus.sending = s.bus.sending := by
  unfold State.readbackSucceeded
  dsimp only
  split <;> simp

/-- In LOOPBACK the close of a slot leaves the receiver off (R2). -/
theorem State.windowClosed_loopback {s : State} (k : Position) (h : s.ctl.state = .loopback) :
    s.windowClosed k =
      { s with
        timer.openSlot := none
        timer.ownOpened := s.timer.ownOpened || k == s.own
        bus.attempt := .off, bus.delivered := false
        bus.sending := s.bus.sending && k != s.own } := by
  simp [State.windowClosed, h]

/-- In LOOPBACK the close of a peer's slot counts nothing and ages no entry (R5, R8, R18). -/
theorem State.closePeerSlot_loopback {s : State} (k : Position) (h : s.ctl.state = .loopback) : s.closePeerSlot k = s := by
  have hdelivers : delivers .loopback = false := rfl
  simp [State.closePeerSlot, State.countBad, h, hdelivers]

end Sys2Proof.Machine

namespace Sys2Proof.Proofs

open Sys2Proof Sys2Proof.Machine

/-- Settles O11: without records, with one record in the three cases of its place, with several, and record by record. -/
theorem readbackSuccessMovesRecords : Obligations.ReadbackSuccessMovesRecords := by
  refine ⟨fun m s hm hown hsent hpair hatt hwait => ?_, fun m s c seq rest hm hown hsent hpair hatt hflag hst hout hrest => ?_,
    fun m s sent rest hm hown hsent hpair hatt hflag hst hout hrest => ?_, fun m s hm hown hsent hpair hatt hflag hst hlost => ?_⟩
  · refine congrArg Host.Outcome.next ((effect_readback_matched hm hown hsent hpair hatt).trans ?_)
    exact State.readbackSucceeded_of_waiting (s := s.heardBack _) hwait
  · intro r room
    have hone : effect (.readback (messageBytes m) true) s =
        ((s.heardBack (messageBytes m)).leftWith rest).acceptRecord r :=
      (effect_readback_matched hm hown hsent hpair hatt).trans
        (State.readbackSucceeded_of_sent (s := s.heardBack _) (sent := [(c, seq)]) hflag hout hrest)
    have hlisten : s.ctl.state ≠ .listening := by rcases hst with h | h | h <;> simp [h]
    refine ⟨fun hroom => congrArg Host.Outcome.next (hone.trans ?_), fun hroom hjoin => congrArg Host.Outcome.next (hone.trans ?_),
      fun e hroom hjoin he => congrArg Host.Outcome.next (hone.trans ?_)⟩
    · exact State.acceptRecord_room rfl ((hasRoom_iff ..).2 hroom)
    · exact (State.acceptRecord_full rfl fun h => hroom ((hasRoom_iff ..).1 h)).trans (State.discardRecord_settled rfl hlisten hjoin)
    · exact (State.acceptRecord_full rfl fun h => hroom ((hasRoom_iff ..).1 h)).trans (State.discardRecord_joining rfl hjoin he)
  · intro moved
    have hmany : effect (.readback (messageBytes m) true) s =
        ((s.heardBack (messageBytes m)).leftWith rest).acceptRecords moved :=
      (effect_readback_matched hm hown hsent hpair hatt).trans (State.readbackSucceeded_of_sent (s := s.heardBack _) hflag hout hrest)
    have hlisten : s.ctl.state ≠ .listening := by rcases hst with h | h | h <;> simp [h]
    have hlen : moved.length = sent.length := List.length_map _
    have heff : ∀ r ∈ moved, r.eff = s.frameLead := by
      intro r hr
      obtain ⟨x, -, rfl⟩ := List.mem_map.1 hr
      rfl
    have hours : ∀ r ∈ moved, r.origin = s.own := by
      intro r hr
      obtain ⟨x, -, rfl⟩ := List.mem_map.1 hr
      rfl
    have hseqs : (moved.map fun r => r.seq) = sent.map fun x => x.2 := List.map_map
    refine ⟨fun hroom hnodup hnew => congrArg Host.Outcome.next (hmany.trans ?_),
      fun k hk hfull hjoin hnodup hnew => congrArg Host.Outcome.next (hmany.trans ?_)⟩
    · exact State.acceptRecords_room heff (hlen.symm ▸ hroom) (hseqs.symm ▸ hnodup) hnew
    · refine (State.acceptRecords_split (s := (s.heardBack (messageBytes m)).leftWith rest) k heff hours ?_ ?_ hnew fun _ => ⟨hfull, hlisten, hjoin⟩).trans ?_
      · change s.sched.list.length + (moved.take k).length ≤ 48
        rw [List.length_take, hlen, Nat.min_eq_left hk]
        omega
      · rw [List.map_take, hseqs, ← List.map_take]
        exact hnodup
      · have hreceipts : ((moved.drop k).map fun r => receiptOf r .discardedFull) =
            (moved.drop k).map fun r => ⟨r.seq, r.change.kind, .discardedFull, some (plusLead s.timer.frame s.cfg.lead)⟩ := by
          refine List.map_congr_left fun r hr => ?_
          rw [receiptOf, heff r (List.mem_of_mem_drop hr)]
          rfl
        rw [hreceipts]
        rfl
  · refine congrArg Host.Outcome.next ((effect_readback_matched hm hown hsent hpair hatt).trans ?_)
    refine State.readbackSucceeded_eq (s.heardBack _) hflag ?_
    rintro (h | h)
    · rcases hst with h' | h' | h' <;> exact absurd (h.symm.trans h') nofun
    · exact hlost h

/-- Settles O13: the hand-over takes the records as a successful readback does, and a peer's slot brings nothing. -/
theorem loopedPathTakesOwnMessage : Obligations.LoopedPathTakesOwnMessage := by
  intro s hst
  have hlisten : s.ctl.state ≠ .listening := by simp [hst]
  have hjoin : s.ctl.state ≠ .joining := by simp [hst]
  refine ⟨fun hloop hstream hwait => ?_, fun c seq rest hloop hflag hout hrest hlen hnew => ?_, fun hloop hstream => ?_,
    fun sent rest k hloop hflag hout hrest => ?_, fun bytes stopBit => ?_, fun hslot hloop => ?_, fun k hk hslot => ?_⟩
  · refine congrArg Host.Outcome.next ((effect_loopedHandover hloop).trans ?_)
    rw [State.readbackSucceeded_of_idle (s := s.loopHeard) hlisten hjoin hstream,
      sentRecords_of_waiting _ s.loopHeard.sub.outbound hwait]
    change State.withRecords [] (s.loopHeard.leftWith (waitingRecords s.sub.outbound)) = _
    rw [waitingRecords_of_waiting _ hwait]
    simp [State.withRecords, State.intake, State.leftWith, State.loopHeard]
  · refine congrArg Host.Outcome.next ((effect_loopedHandover hloop).trans ?_)
    refine (State.readbackSucceeded_of_sent (s := s.loopHeard) (sent := [(c, seq)]) hflag hout hrest).trans ?_
    exact State.acceptRecord_room rfl ((hasRoom_iff ..).2 ⟨hlen, hnew⟩)
  · refine congrArg Host.Outcome.next ((effect_loopedHandover hloop).trans ?_)
    exact State.readbackSucceeded_of_idle (s := s.loopHeard) hlisten hjoin hstream
  · intro moved hroom hfull hnodup hnew
    have hlen : moved.length = sent.length := List.length_map _
    have hseqs : (moved.map fun r => r.seq) = sent.map fun x => x.2 := List.map_map
    have heff : ∀ r ∈ moved, r.eff = s.frameLead := by
      intro r hr
      obtain ⟨x, -, rfl⟩ := List.mem_map.1 hr
      rfl
    have hours : ∀ r ∈ moved, r.origin = s.own := by
      intro r hr
      obtain ⟨x, -, rfl⟩ := List.mem_map.1 hr
      rfl
    refine congrArg Host.Outcome.next ((effect_loopedHandover hloop).trans ?_)
    refine (State.readbackSucceeded_of_sent (s := s.loopHeard) hflag hout hrest).trans ?_
    refine State.acceptRecords_split (s := s.loopHeard.leftWith rest) k heff hours ?_ ?_ hnew fun hk => ⟨hfull (hlen ▸ hk), hlisten, hjoin⟩
    · change s.sched.list.length + (moved.take k).length ≤ 48
      rw [List.length_take]
      omega
    · change ((moved.take k).map fun r => r.seq).Nodup
      rw [List.map_take, hseqs, ← List.map_take]
      exact hnodup
  · refine congrArg Host.Outcome.next (effect_messageReceived_deaf ?_)
    simp [State.receives, hst]
  · refine ⟨s.handOver, congrArg Host.Outcome.next (effect_loopedHandover hloop), congrArg Host.Outcome.next ?_⟩
    change effect (.slotClose s.own) s = _
    have hclose : s.closeSlot s.own = s.handOver.windowClosed s.own := by
      rw [State.closeSlot, if_pos rfl, State.closeOwnSlot, hloop]
    rw [effect_slotClose hslot, hclose, State.windowClosed_loopback _ (by simpa using hst)]
    have hquiet : s.handOver.bus.sending = false := State.readbackSucceeded_sending s.loopHeard
    simp [State.own, hquiet]
  · refine congrArg Host.Outcome.next ((effect_slotClose hslot).trans ?_)
    rw [State.closeSlot, if_neg hk, State.closePeerSlot_loopback k hst, State.windowClosed_loopback k hst]
    simp [hk]

end Sys2Proof.Proofs

/-! SUPPORT. A failed readback (R14, R16): the state it leaves by the run count. -/

namespace Sys2Proof.Machine

/-- The records that were sent leave with UNCERTAIN receipts (R16). -/
def State.uncertain (s : State) : State :=
  { s with
    sub.outbound := s.sub.outbound.filter fun r => r.status == .waiting
    sub.receipts := s.sub.receipts ++ s.sub.outbound.filterMap fun r =>
      match r.status with
      | .waiting => none
      | .beingSent seq eff => some ⟨seq, r.change.kind, .uncertain, some eff⟩ }

theorem map_receiptOf_sentRecords (own : Position) (o : ReceiptOutcome) (q : List OutRecord) :
    ((sentRecords own q).map fun r => receiptOf r o) = q.filterMap fun r =>
      match r.status with
      | .waiting => none
      | .beingSent seq eff => some ⟨seq, r.change.kind, o, some eff⟩ := by
  rw [sentRecords, List.map_filterMap]
  congr 1
  funext r
  cases r.status <;> rfl

/-- The failure is entered, and counted in the run (R16). -/
def State.failureCounted (s : State) : State := { s.uncertain with bus.readback := .failure, bus.runCount := s.bus.runCount + 1 }

theorem State.readbackFailed_eq (s : State) :
    s.readbackFailed =
      if 1 ≤ s.bus.runCount then s.failureCounted.enterFault .collision
      else if s.ctl.state = .member then s.failureCounted.resync .readback else s.failureCounted := by
  have hcount : 2 ≤ s.bus.runCount + 1 ↔ 1 ≤ s.bus.runCount := by omega
  simp only [State.readbackFailed, map_receiptOf_sentRecords, hcount]
  rfl

/-- What a failed readback does, whichever way it ends (R14, R16, R45, R46, R53). -/
def FailedFrom (s t : State) : Prop :=
  t.bus.readback = .failure ∧ t.bus.awaiting = .none ∧
  t.bus.badMessages = s.bus.badMessages ∧ t.obj = s.obj ∧ t.svc = s.svc ∧ t.cfg = s.cfg ∧
  (s.bus.runCount = 0 → s.ctl.state = .member →
    t.ctl = { s.ctl with state := .joining, joinReason := .resync, resyncCause := .readback } ∧ t.bus.runCount = 1 ∧
    t.events.wall.stateChanged = true ∧ t.events.wall.resyncStarted = true ∧
    t.snap.eLost = some (plusLead s.timer.frame s.cfg.lead) ∧ t.snap.coll = .waiting ∧ t.snap.streaming = false ∧
    t.timer.frame = s.timer.frame ∧ t.sched = s.sched ∧ t.shows = { s.shows with deferred := none } ∧
    t.comp.showing = false ∧ t.roster = s.roster) ∧
  (s.bus.runCount = 0 → s.ctl.state = .joining ∨ s.ctl.state = .leaving →
    t.ctl = s.ctl ∧ t.bus.runCount = 1 ∧ t.sched = s.sched ∧ t.snap = s.snap ∧ t.shows = s.shows ∧
    t.roster = s.roster ∧ t.events = s.events) ∧
  (s.bus.runCount = 0 → t.sub = s.uncertain.sub) ∧
  (1 ≤ s.bus.runCount →
    t.sub = s.uncertain.subCleared ∧ t.ctl.state = .fault ∧ t.ctl.faultReason = .collision ∧ t.bus.runCount = 0 ∧ t.events.fault = true ∧
    t.events.wall.stateChanged = true ∧ t.sched.list = [] ∧ t.sub.outbound = [] ∧ t.bus.sending = false ∧
    t.timer.driving = false ∧ t.roster = clearedRoster ∧ t.shows = { s.shows with deferred := some .stopBlank })

theorem State.readbackFailed_failedFrom (bytes : List Byte) (s : State) : FailedFrom s (s.heardBack bytes).readbackFailed := by
  have heq := (s.heardBack bytes).readbackFailed_eq
  by_cases hagain : 1 ≤ s.bus.runCount
  · have hfault : (s.heardBack bytes).readbackFailed = (s.heardBack bytes).failureCounted.enterFault .collision := heq.trans (if_pos hagain)
    have hno : s.bus.runCount ≠ 0 := by omega
    rw [hfault]
    exact ⟨rfl, rfl, rfl, rfl, rfl, rfl, fun h => absurd h hno, fun h => absurd h hno, fun h => absurd h hno,
      fun _ => ⟨State.enterFault_sub _ _, rfl, rfl, rfl, rfl, rfl, rfl, rfl, rfl, Bool.and_false _, rfl, rfl⟩⟩
  · by_cases hmember : s.ctl.state = .member
    · have hresync : (s.heardBack bytes).readbackFailed = (s.heardBack bytes).failureCounted.resync .readback :=
        heq.trans ((if_neg hagain).trans (if_pos hmember))
      rw [hresync]
      refine ⟨rfl, rfl, rfl, rfl, rfl, rfl, fun h _ => ?_, fun _ h => ?_, fun _ => rfl, fun h => absurd h hagain⟩
      · exact ⟨rfl, congrArg (· + 1) h, rfl, rfl, rfl, rfl, Bool.and_false _, rfl, rfl, rfl, Bool.and_false _, rfl⟩
      · rcases h with h | h <;> exact absurd (hmember.symm.trans h) nofun
    · have hgoes : (s.heardBack bytes).readbackFailed = (s.heardBack bytes).failureCounted :=
        heq.trans ((if_neg hagain).trans (if_neg hmember))
      rw [hgoes]
      exact ⟨rfl, rfl, rfl, rfl, rfl, rfl, fun _ h => absurd h hmember,
        fun h _ => ⟨rfl, congrArg (· + 1) h, rfl, rfl, rfl, rfl, rfl⟩, fun _ => rfl, fun h => absurd h hagain⟩

/-- The close of a slot adds nothing to the failure. -/
theorem FailedFrom.windowClosed {s t : State} (k : Position) (h : FailedFrom s t) : FailedFrom s (t.windowClosed k) := by
  obtain ⟨hreadback, hawaiting, hbad, hobj, hsvc, hcfg, hmember, hgoes, hsub, hfault⟩ := h
  refine ⟨hreadback, hawaiting, hbad, hobj, hsvc, hcfg, hmember, hgoes, hsub, fun hagain => ?_⟩
  obtain ⟨hsub, hst, hreason, hcount, hevent, hchanged, hlist, hqueue, hquiet, hdrive, hroster, hshows⟩ := hfault hagain
  have hsending : (t.windowClosed k).bus.sending = false := by
    change (t.bus.sending && k != t.own) = false
    rw [hquiet, Bool.false_and]
  exact ⟨hsub, hst, hreason, hcount, hevent, hchanged, hlist, hqueue, hsending, hdrive, hroster, hshows⟩

theorem State.readbackFailed_timer (s : State) : s.readbackFailed.timer = { s.timer with driving := s.readbackFailed.timer.driving } := by
  rw [State.readbackFailed_eq]
  split
  · rfl
  · split <;> rfl

theorem cutMessage_rxBuffer (b : Bus) : (cutMessage b).rxBuffer = b.rxBuffer := by
  unfold cutMessage
  split <;> rfl

theorem State.readbackFailed_rxBuffer (s : State) : s.readbackFailed.bus.rxBuffer = s.bus.rxBuffer := by
  rw [State.readbackFailed_eq]
  split
  · exact cutMessage_rxBuffer _
  · split <;> rfl

/-- No failure leads into LOOPBACK (R16). -/
theorem State.readbackFailed_state {s : State} (h : s.ctl.state ≠ .loopback) : s.readbackFailed.ctl.state ≠ .loopback := by
  rw [State.readbackFailed_eq]
  split
  · exact nofun
  · split
    · exact nofun
    · exact h

end Sys2Proof.Machine

namespace Sys2Proof.Proofs

open Sys2Proof Sys2Proof.Machine

/-- Settles O12: at the close of the own slot and at an attempt that ends without a match. -/
theorem readbackFailureByRunCount : Obligations.ReadbackFailureByRunCount := by
  intro s hpair htransmits kept failed
  refine ⟨fun hslot => ?_, fun bytes stopBit hatt => ?_⟩
  · have hclose : effect (.slotClose s.own) s = (s.heardBack s.bus.rxBuffer).readbackFailed.windowClosed s.own := by
      rw [effect_slotClose hslot, State.closeSlot, if_pos rfl, State.closeOwnSlot, hpair]
      rfl
    refine ⟨effect (.slotClose s.own) s, rfl, ?_⟩
    have hown : (s.heardBack s.bus.rxBuffer).readbackFailed.own = s.own := by simp [State.own, State.heardBack]
    have hloop : (s.heardBack s.bus.rxBuffer).readbackFailed.ctl.state ≠ .loopback := by
      refine State.readbackFailed_state (s := s.heardBack _) fun h => ?_
      rw [show s.ctl.state = .loopback from h] at htransmits
      cases htransmits
    rw [hclose]
    refine ⟨?_, ?_, rfl, ?_, (State.readbackFailed_failedFrom _ s).windowClosed _⟩
    · simp only [State.windowClosed, hown, beq_self_eq_true, Bool.or_true]
      rw [State.readbackFailed_timer]
      rfl
    · simp [State.windowClosed, hloop]
    · simp [State.windowClosed, hown]
  · intro run hrun
    have hlive : s.attemptLive = true := s.attemptLive_iff.2 (.inl hatt)
    have hcollected := State.collected_of_waiting hatt
    have hfails : effect (.readback bytes stopBit) s = (s.heardBack run.1).readbackFailed := by
      rw [effect_readback hpair hlive, hcollected]
      rcases hrun with hinvalid | ⟨hcomplete, hdiffers⟩
      · change s.readbackRun run.1 run.2 = _
        rw [hinvalid]
        rfl
      · have hno : (s.setAttempt run.1 true).readbackMatches = false := by
          change ((run.1 == s.bus.txBuffer) && (parseMessage s.own run.1).isSome) = false
          rcases hdiffers with h | h <;> simp [h]
        change s.readbackRun run.1 run.2 = _
        rw [hcomplete, State.readbackRun, State.settleReadback, hno]
        rfl
    refine ⟨effect (.readback bytes stopBit) s, rfl, ?_⟩
    rw [hfails]
    exact ⟨(congrArg FrameTimer.openSlot (s.heardBack run.1).readbackFailed_timer :), State.readbackFailed_rxBuffer _,
      State.readbackFailed_failedFrom _ s⟩

end Sys2Proof.Proofs

/-! SUPPORT. The delivery of a peer's message block by block: roster, station controller, schedule (R7, R28, R30, R31, R55, R83 to R85). -/

namespace Sys2Proof.Machine

/-! ### An entry that is replaced (R54, R140) -/

theorem State.roster_setEntry_self (k : Position) (e : Entry) (s : State) : (s.setEntry k e).roster[k] = e := by
  simp [State.setEntry]

theorem State.roster_setEntry_of_ne {k p : Position} (h : p ≠ k) (e : Entry) (s : State) : (s.setEntry k e).roster[p] = s.roster[p] := by
  have hval : k.val ≠ p.val := fun heq => h (Fin.ext heq.symm)
  simp [State.setEntry, Vector.getElem_set_ne, hval]

/-- An entry that keeps its state leaves the reference station (R60). -/
theorem State.reference_setEntry {k : Position} {e : Entry} {s : State} (h : e.state = s.roster[k].state) :
    (s.setEntry k e).reference = s.reference := by
  have hstate (p : Position) : ((s.setEntry k e).entry p).state = (s.entry p).state := by
    by_cases hown : p = s.own
    · have hself : ∀ t : State, t.own = s.own → t.entry p = ownEntry t.ctl := fun t ht => if_pos (hown.trans ht.symm)
      rw [hself s rfl, hself (s.setEntry k e) rfl]
      rfl
    · have hpeer : ∀ t : State, t.own = s.own → t.entry p = t.roster[p] := fun t ht => if_neg (ht ▸ hown)
      rw [hpeer s rfl, hpeer (s.setEntry k e) rfl]
      by_cases hk : p = k
      · rw [hk, State.roster_setEntry_self, h]
      · rw [State.roster_setEntry_of_ne hk]
  simp only [State.reference, hstate]

/-- An entry that takes another state than MEMBER raises ROSTER_CHANGED on a change, and a collection from a MEMBER ends with it (R54, R140). -/
theorem State.updateEntry_of_not_member {k : Position} {e : Entry} {s : State} (h : e.state ≠ .member) :
    s.updateEntry k e =
      { s with
        roster := s.roster.set k e
        events.wall.rosterChanged := s.events.wall.rosterChanged || s.roster[k].state != e.state
        snap.coll :=
          if s.roster[k].state = .member ∧ s.snap.collSource = k ∧ s.snap.coll = .collecting then .waiting else s.snap.coll
        events.wall.snapshotAbandoned := s.events.wall.snapshotAbandoned ||
          decide (s.roster[k].state = .member ∧ s.snap.collSource = k ∧ s.snap.coll = .collecting) } := by
  by_cases hsame : s.roster[k].state = e.state
  · have hpeer : s.roster[k].state ≠ .member := hsame ▸ h
    rw [State.updateEntry, if_pos hsame]
    simp only [hsame, h, false_and, if_false, decide_false, Bool.or_false, bne_self_eq_false]
    rfl
  · have hchanged : (s.roster[k].state != e.state) = true := bne_iff_ne.2 hsame
    rw [State.updateEntry, if_neg hsame, hchanged]
    by_cases hsource : s.roster[k].state = .member ∧ s.snap.collSource = k
    · rw [if_pos hsource]
      by_cases hcoll : s.snap.coll = .collecting
      · have habandoned : ((s.setEntry k e).raiseRosterChanged).abandon = { (s.setEntry k e).raiseRosterChanged with
            snap.coll := .waiting, events.wall.snapshotAbandoned := true } := if_pos hcoll
        simp only [habandoned, hsource.1, hsource.2, hcoll, and_self, if_true, decide_true, Bool.or_true]
        rw [← hsource.2]
        rfl
      · have hkept : ((s.setEntry k e).raiseRosterChanged).abandon = (s.setEntry k e).raiseRosterChanged := if_neg hcoll
        simp only [hkept, hcoll, and_false, if_false, decide_false, Bool.or_false, Bool.or_true]
        rfl
    · rw [if_neg hsource]
      simp only [← and_assoc, hsource, false_and, if_false, decide_false, Bool.or_false, Bool.or_true]
      rfl

/-- An entry that becomes MEMBER raises ROSTER_CHANGED (R54). -/
theorem State.updateEntry_to_member {k : Position} {e : Entry} {s : State} (h : e.state = .member) (hpeer : s.roster[k].state ≠ .member) :
    s.updateEntry k e = { s with roster := s.roster.set k e, events.wall.rosterChanged := true } := by
  have hdiffers : s.roster[k].state ≠ e.state := h ▸ hpeer
  rw [State.updateEntry, if_neg hdiffers]
  simp only [hpeer, false_and, if_false]
  rfl

/-! ### The roster's step of an IDLE (R55) -/

theorem State.rosterStep_of_joining {m : Message} {s : State} (hb : m.body = .idle) (h : s.roster[m.sender].state = .joining) :
    s.rosterStep m = s.updateEntry m.sender (memberEntry m.mark) := by
  simp only [State.rosterStep, hb, h]

theorem State.rosterStep_of_member {m : Message} {s : State} (hb : m.body = .idle) (h : s.roster[m.sender].state = .member) :
    s.rosterStep m = s.setEntry m.sender { s.roster[m.sender] with miss := 0 } := by
  simp only [State.rosterStep, hb, h]

/-- An ABSENT or LEAVING entry is entered in LISTENING and JOINING. -/
theorem State.rosterStep_entered {m : Message} {s : State} (hb : m.body = .idle)
    (h : s.roster[m.sender].state = .absent ∨ s.roster[m.sender].state = .leaving)
    (hst : s.ctl.state = .listening ∨ s.ctl.state = .joining) :
    s.rosterStep m = s.updateEntry m.sender (memberEntry (s.roster[m.sender].expected.getD m.mark)) := by
  rcases h with h | h <;> rcases hst with hst | hst <;> simp only [State.rosterStep, hb, h, hst]

theorem State.rosterStep_merge {m : Message} {s : State} (hb : m.body = .idle)
    (h : s.roster[m.sender].state = .absent ∨ s.roster[m.sender].state = .leaving) (hst : s.ctl.state = .member) :
    s.rosterStep m = s.mergeRule m := by
  rcases h with h | h <;> simp only [State.rosterStep, hb, h, hst]

theorem State.rosterStep_in_leaving {m : Message} {s : State} (hb : m.body = .idle)
    (h : s.roster[m.sender].state = .absent ∨ s.roster[m.sender].state = .leaving) (hst : s.ctl.state = .leaving) :
    s.rosterStep m = s.setEntry m.sender { s.roster[m.sender] with miss := 0 } := by
  rcases h with h | h <;> simp only [State.rosterStep, hb, h, hst]

/-! ### The station controller's step (R28, R30, R31) -/

theorem State.frameMismatch_eq_false_iff (m : Message) (s : State) :
    s.frameMismatch m = false ↔ (s.reference = some m.sender → m.frame = s.timer.frame) := by
  rw [State.frameMismatch, Bool.and_eq_false_imp, beq_iff_eq]
  simp

/-- The message is in step: it brings the station controller nothing. -/
def State.InStep (m : Message) (s : State) : Prop :=
  s.ctl.state = .leaving ∨ (s.ctl.state = .listening ∧ s.ctl.memberHeard = true) ∨
    ((s.ctl.state = .member ∨ s.ctl.state = .joining) ∧ (s.reference = some m.sender → m.frame = s.timer.frame))

theorem State.controllerStep_of_inStep {m : Message} {s : State} (wasMember : Bool) (h : s.InStep m) : s.controllerStep wasMember m = s := by
  unfold State.controllerStep
  split
  · rcases h with h | ⟨h, hheard⟩ | ⟨h | h, hframe⟩
    · simp only [h]
    · simp only [h, hheard, if_true]
    · simp only [h, (s.frameMismatch_eq_false_iff m).2 hframe, Bool.false_eq_true, if_false]
    · simp only [h, (s.frameMismatch_eq_false_iff m).2 hframe, Bool.false_eq_true, if_false]
  · rfl

/-- In the delivering states a message is in step unless it is the first of a listening or shows a frame mismatch. -/
theorem State.inStep_of_delivers {m : Message} {s : State} (hdel : delivers s.ctl.state = true)
    (hheard : s.ctl.state = .listening → s.ctl.memberHeard = true)
    (hframe : s.ctl.state = .member ∨ s.ctl.state = .joining → s.reference = some m.sender → m.frame = s.timer.frame) : s.InStep m := by
  cases hst : s.ctl.state with
  | listening => exact .inr (.inl ⟨hst, hheard hst⟩)
  | joining => exact .inr (.inr ⟨.inr hst, hframe (.inr hst)⟩)
  | member => exact .inr (.inr ⟨.inl hst, hframe (.inl hst)⟩)
  | leaving => exact .inl hst
  | offline => rw [hst] at hdel; cases hdel
  | fault => rw [hst] at hdel; cases hdel
  | loopback => rw [hst] at hdel; cases hdel

theorem State.InStep.setEntry {m : Message} {k : Position} {e : Entry} {s : State} (hstate : e.state = s.roster[k].state) (h : s.InStep m) :
    (s.setEntry k e).InStep m := by
  rcases h with h | h | ⟨h, hframe⟩
  · exact .inl h
  · exact .inr (.inl h)
  · exact .inr (.inr ⟨h, fun href => hframe ((State.reference_setEntry hstate).symm.trans href)⟩)

/-! ### The schedule's step of an IDLE (R84, R85) -/

theorem State.sequenceCheck_of_mark {k : Position} {mark : SeqNum} {s : State} (h : s.roster[k].expected = some mark) :
    s.sequenceCheck k mark = s := if_pos h

theorem State.sequenceCheck_of_gap {k : Position} {mark : SeqNum} {s : State} (h : s.roster[k].expected ≠ some mark) :
    s.sequenceCheck k mark = (s.setExpected k mark).gapEffect := if_neg h

/-- An IDLE whose sender is MEMBER in the roster ends with the sequence check (R7, R83, R84). -/
theorem State.deliver_idle_of_member {m : Message} {s u : State} (hb : m.body = .idle) (hstate : m.state = .member)
    (hroster : s.rosterStep m = u) (hpeer : u.roster[m.sender].state = .member) :
    s.deliver m = (u.controllerStep (s.ctl.state == .member) m).sequenceCheck m.sender m.mark := by
  have hkept : (u.controllerStep (s.ctl.state == .member) m).roster[m.sender].state = .member := by simpa using hpeer
  simp only [State.deliver, hroster, State.scheduleStep, State.snapshotStep, hb, hstate, hkept, and_self, if_true]

/-- An IDLE whose sender is not MEMBER in the roster brings the schedule nothing (R83). -/
theorem State.deliver_idle_of_not_member {m : Message} {s u : State} (hb : m.body = .idle)
    (hroster : s.rosterStep m = u) (hpeer : u.roster[m.sender].state ≠ .member) :
    s.deliver m = u.controllerStep (s.ctl.state == .member) m := by
  have hkept : (u.controllerStep (s.ctl.state == .member) m).roster[m.sender].state ≠ .member := by simpa using hpeer
  simp only [State.deliver, hroster, State.scheduleStep, State.snapshotStep, hb, hkept, and_false, if_false]

/-- A JOIN or LEAVE brings the roster alone something. -/
theorem State.deliver_of_sender_not_member {m : Message} {s : State} (hb : (∃ reason, m.body = .join reason) ∨ ∃ f, m.body = .leave f)
    (hstate : m.state ≠ .member) : s.deliver m = s.rosterStep m := by
  have hcontroller : (s.rosterStep m).controllerStep (s.ctl.state == .member) m = s.rosterStep m := if_neg hstate
  rcases hb with ⟨reason, hb⟩ | ⟨f, hb⟩ <;>
    simp only [State.deliver, hcontroller, State.scheduleStep, State.snapshotStep, hb, hstate, false_and, if_false]

/-- A PART does what an IDLE with its header does, and then the snapshot unit takes it (R7, R135). -/
theorem State.deliver_part {m : Message} {f : Frame} {index count : Byte} {data : List Byte} (s : State)
    (hb : m.body = .part f index count data) :
    s.deliver m = (s.deliver { m with body := .idle }).takePart m.sender f index count data := by
  have hroster : s.rosterStep m = s.rosterStep { m with body := .idle } := by
    simp only [State.rosterStep, hb]
    rfl
  have hschedule (u : State) : u.scheduleStep m = u.scheduleStep { m with body := .idle } := by
    simp only [State.scheduleStep, hb]
  have hsnapshot (u : State) : u.snapshotStep m = u.takePart m.sender f index count data := by
    simp only [State.snapshotStep, hb]
  rw [State.deliver, hroster, hschedule, hsnapshot]
  rfl

/-! ### Delivery leaves the bus alone -/

/-- The bus is replaced. -/
def State.withBus (b : Bus) (s : State) : State := { s with bus := b }

/-- An operation that neither reads nor writes the bus. -/
def IgnoresBus (f : State → State) : Prop := ∀ (s : State) (b : Bus), f (s.withBus b) = (f s).withBus b

theorem IgnoresBus.comp {f g : State → State} (hg : IgnoresBus g) (hf : IgnoresBus f) : IgnoresBus fun s => g (f s) := fun s b =>
  (congrArg g (hf s b)).trans (hg (f s) b)

theorem IgnoresBus.ite {c : State → Prop} [∀ s, Decidable (c s)] {f g : State → State} (hf : IgnoresBus f) (hg : IgnoresBus g)
    (hc : ∀ s b, c (s.withBus b) ↔ c s := by exact fun _ _ => Iff.rfl) : IgnoresBus fun s => if c s then f s else g s := by
  intro s b
  by_cases h : c s
  · simpa only [if_pos h, if_pos ((hc s b).2 h)] using hf s b
  · simpa only [if_neg h, if_neg fun h' => h ((hc s b).1 h')] using hg s b

theorem ignoresBus_id : IgnoresBus fun s => s := fun _ _ => rfl

theorem ignoresBus_setEntry (k : Position) (e : State → Entry) (he : ∀ s b, e (s.withBus b) = e s := by exact fun _ _ => rfl) :
    IgnoresBus fun s => s.setEntry k (e s) := fun s b => by
  have hentry : e (s.withBus b) = e s := he s b
  change (s.withBus b).setEntry k (e (s.withBus b)) = _
  rw [hentry]
  rfl

theorem ignoresBus_abandon : IgnoresBus State.abandon := .ite (fun _ _ => rfl) ignoresBus_id

theorem ignoresBus_clearPendingList : IgnoresBus State.clearPendingList := fun _ _ => rfl

theorem ignoresBus_resync (cause : ResyncCause) : IgnoresBus (State.resync cause) := fun _ _ => rfl

theorem ignoresBus_updateEntry (k : Position) (e : Entry) : IgnoresBus (State.updateEntry k e) :=
  have hchanged : IgnoresBus fun s => (s.setEntry k e).raiseRosterChanged := fun _ _ => rfl
  .ite (fun _ _ => rfl) (.ite (ignoresBus_abandon.comp hchanged) hchanged)

theorem ignoresBus_mergeRule (m : Message) : IgnoresBus (State.mergeRule m) :=
  have hentered : IgnoresBus (State.updateEntry m.sender (memberEntry m.mark)) := ignoresBus_updateEntry _ _
  have hmerged : IgnoresBus fun s => ((s.updateEntry m.sender (memberEntry m.mark)).adopt m.frame).clearPendingList.resync .merge :=
    (ignoresBus_resync .merge).comp (ignoresBus_clearPendingList.comp (.comp (g := State.adopt m.frame) (fun _ _ => rfl) hentered))
  .ite (.ite hentered ((ignoresBus_resync .gap).comp hentered)) (.ite hmerged (ignoresBus_setEntry _ _))

theorem ignoresBus_rosterStep (m : Message) : IgnoresBus (State.rosterStep m) := by
  have hmember (expected : SeqNum) := ignoresBus_updateEntry m.sender (memberEntry expected)
  have hmiss : IgnoresBus fun s => s.setEntry m.sender { s.roster[m.sender] with miss := 0 } := ignoresBus_setEntry _ _
  intro s b
  have hentry : (s.withBus b).roster[m.sender] = s.roster[m.sender] := rfl
  have hst : (s.withBus b).ctl.state = s.ctl.state := rfl
  cases hb : m.body with
  | join reason => simpa only [State.rosterStep, hb] using ignoresBus_updateEntry _ _ s b
  | leave f => simpa only [State.rosterStep, hb, hentry] using ignoresBus_updateEntry _ _ s b
  | _ =>
    cases he : s.roster[m.sender].state with
    | joining => simpa only [State.rosterStep, hb, hentry, he] using hmember _ s b
    | member => simpa only [State.rosterStep, hb, hentry, he] using hmiss s b
    | _ =>
      cases hc : s.ctl.state with
      | listening => simpa only [State.rosterStep, hb, hentry, he, hst, hc] using hmember _ s b
      | joining => simpa only [State.rosterStep, hb, hentry, he, hst, hc] using hmember _ s b
      | member => simpa only [State.rosterStep, hb, hentry, he, hst, hc] using ignoresBus_mergeRule m s b
      | _ => simpa only [State.rosterStep, hb, hentry, he, hst, hc] using hmiss s b

theorem ignoresBus_controllerStep (wasMember : Bool) (m : Message) : IgnoresBus (State.controllerStep wasMember m) := by
  have hrestart : IgnoresBus (State.restartJoining wasMember m) := fun s b => by
    have h := ignoresBus_abandon ((s.adopt m.frame).clearPendingList) b
    unfold State.restartJoining
    exact congrArg (fun v : State => { v with
      snap.eLost := some v.frameLead
      ctl.joinReason := .resync
      ctl.resyncCause := if wasMember then v.ctl.resyncCause else .frame
      events.wall.resyncStarted := true }) h
  intro s b
  have hst : (s.withBus b).ctl = s.ctl := rfl
  have hmismatch : (s.withBus b).frameMismatch m = s.frameMismatch m := rfl
  unfold State.controllerStep
  simp only [hst, hmismatch]
  split
  · split
    · split <;> rfl
    · split <;> rfl
    · split
      · exact hrestart s b
      · rfl
    all_goals rfl
  · rfl

theorem ignoresBus_sequenceCheck (k : Position) (mark : SeqNum) : IgnoresBus (State.sequenceCheck k mark) := by
  have hgap : IgnoresBus State.gapEffect := fun s b => by
    have hst : (s.withBus b).ctl.state = s.ctl.state := rfl
    unfold State.gapEffect
    simp only [hst]
    split
    · rfl
    · exact congrArg (fun v : State => { v with snap.eLost := some v.frameLead }) (ignoresBus_abandon s b)
    all_goals rfl
  exact .ite ignoresBus_id (hgap.comp (g := State.gapEffect) fun _ _ => rfl)

/-- The messages whose delivery brings no record and no part. -/
def Body.quiet : Body → Prop
  | .idle | .join _ | .leave _ => True
  | .changes _ | .part _ _ _ _ => False

theorem ignoresBus_deliver {m : Message} (hb : m.body.quiet) : IgnoresBus (State.deliver m) := by
  have hsnapshot (s : State) : s.snapshotStep m = s := by
    unfold State.snapshotStep
    split
    · next h => exact absurd hb (by simp [h, Body.quiet])
    all_goals rfl
  have hchecked : IgnoresBus fun s => if m.state = .member ∧ s.roster[m.sender].state = .member then s.sequenceCheck m.sender m.mark else s :=
    .ite (ignoresBus_sequenceCheck _ _) ignoresBus_id
  have hschedule (s : State) : s.scheduleStep m =
      if m.state = .member ∧ s.roster[m.sender].state = .member then s.sequenceCheck m.sender m.mark else s := by
    cases hbody : m.body with
    | changes records => exact absurd hb (by simp [hbody, Body.quiet])
    | _ => simp only [State.scheduleStep, hbody]
  intro s b
  have hroster := ignoresBus_rosterStep m s b
  have hcontroller := ignoresBus_controllerStep (s.ctl.state == .member) m (s.rosterStep m) b
  simp only [State.deliver, hsnapshot, hschedule]
  rw [hroster]
  refine (congrArg (fun v : State => if m.state = .member ∧ v.roster[m.sender].state = .member then v.sequenceCheck m.sender m.mark else v)
    hcontroller).trans ?_
  exact hchecked _ b

/-! ### A peer's message is heard -/

theorem State.mayHear.receives {m : Message} {s : State} (h : s.mayHear m) (hdel : delivers s.ctl.state = true) : s.receives = true := by
  obtain ⟨-, hpeer, hslot, hatt⟩ := h
  refine State.receives_of_waiting (fun hloop => ?_) hatt fun hown => ?_
  · rw [hloop] at hdel
    cases hdel
  · exact absurd (Option.some.inj (hslot.symm.trans hown)) hpeer

/-- A peer's message is delivered (R6, R7). -/
theorem effect_heard {m : Message} {s : State} (h : s.mayHear m) (hdel : delivers s.ctl.state = true) :
    effect (.messageReceived (messageBytes m) true) s =
      { (s.setAttempt (messageBytes m) true).deliver m with bus.delivered := true } := by
  have hreceives := h.receives hdel
  obtain ⟨hm, hpeer, hslot, hatt⟩ := h
  rw [effect_messageReceived_whole hm hslot hatt hreceives]
  exact (if_neg hpeer).trans (if_pos hdel)

/-- The bus after a message that was delivered. -/
def Bus.heard (bytes : List Byte) (b : Bus) : Bus := { b with rxBuffer := bytes, attempt := .ended, delivered := true }

/-- The delivery of a message without records and parts leaves the bus as the attempt left it. -/
theorem effect_heard_quiet {m : Message} {s : State} (h : s.mayHear m) (hdel : delivers s.ctl.state = true) (hb : m.body.quiet) :
    effect (.messageReceived (messageBytes m) true) s = (s.deliver m).withBus (s.bus.heard (messageBytes m)) := by
  have hbus := ignoresBus_deliver hb s (s.setAttempt (messageBytes m) true).bus
  rw [effect_heard h hdel]
  exact congrArg (fun v : State => { v with bus.delivered := true }) hbus

end Sys2Proof.Machine

/-! SUPPORT. An IDLE of a peer by the sender's entry and the station state (R55, R84, R85). -/

namespace Sys2Proof.Machine

theorem State.mayHear.of_idle {m : Message} {s : State} (h : s.mayHear m) (hstate : m.state = .member) : s.mayHear { m with body := .idle } := by
  obtain ⟨⟨-, hset, -⟩, hpeer, hslot, hatt⟩ := h
  exact ⟨⟨hstate, hset, trivial⟩, hpeer, hslot, hatt⟩

theorem quiet_of_idle {m : Message} (hb : m.body = .idle) : m.body.quiet := by
  rw [hb]
  trivial

theorem state_of_idle {m : Message} (hm : m.wellFormed) (hb : m.body = .idle) : m.state = .member := by
  rw [hm.1, hb]
  rfl

/-- The miss count of a MEMBER entry is cleared, and the entry stays MEMBER. -/
def State.missCleared (k : Position) (s : State) : State := s.setEntry k { s.roster[k] with miss := 0 }

theorem State.InStep.missCleared {m : Message} {s : State} (k : Position) (h : s.InStep m) : (s.missCleared k).InStep m :=
  State.InStep.setEntry (s := s) rfl h

theorem State.roster_missCleared (k : Position) (s : State) : (s.missCleared k).roster[k] = { s.roster[k] with miss := 0 } :=
  State.roster_setEntry_self _ _ _

/-- An IDLE of a MEMBER entry in step and in sequence clears its miss count alone (R84). -/
theorem State.deliver_idle_in_sequence {m : Message} {s : State} (hb : m.body = .idle) (hstate : m.state = .member)
    (hpeer : s.roster[m.sender].state = .member) (hmark : s.roster[m.sender].expected = some m.mark) (hstep : s.InStep m) :
    s.deliver m = s.missCleared m.sender := by
  have hroster : s.rosterStep m = s.missCleared m.sender := State.rosterStep_of_member hb hpeer
  have hentry := s.roster_missCleared m.sender
  rw [State.deliver_idle_of_member hb hstate hroster ((congrArg Entry.state hentry).trans hpeer),
    State.controllerStep_of_inStep _ (hstep.missCleared _)]
  exact State.sequenceCheck_of_mark ((congrArg Entry.expected hentry).trans hmark)

/-- The entry of a MEMBER peer with its miss count cleared and its next number (R84). -/
def State.expecting (k : Position) (mark : SeqNum) (s : State) : State :=
  s.setEntry k { s.roster[k] with miss := 0, expected := some mark }

theorem State.setExpected_missCleared (k : Position) (mark : SeqNum) (s : State) :
    (s.missCleared k).setExpected k mark = s.expecting k mark := by
  rw [State.setExpected, State.roster_missCleared]
  simp [State.missCleared, State.expecting, State.setEntry]

/-- An IDLE of a MEMBER entry in step and out of sequence shows a gap (R84, R85). -/
theorem State.deliver_idle_gap {m : Message} {s : State} (hb : m.body = .idle) (hstate : m.state = .member)
    (hpeer : s.roster[m.sender].state = .member) (hmark : s.roster[m.sender].expected ≠ some m.mark) (hstep : s.InStep m) :
    s.deliver m = (s.expecting m.sender m.mark).gapEffect := by
  have hroster : s.rosterStep m = s.missCleared m.sender := State.rosterStep_of_member hb hpeer
  have hentry := s.roster_missCleared m.sender
  rw [State.deliver_idle_of_member hb hstate hroster ((congrArg Entry.state hentry).trans hpeer),
    State.controllerStep_of_inStep _ (hstep.missCleared _), ← State.setExpected_missCleared]
  exact State.sequenceCheck_of_gap fun h => hmark ((congrArg Entry.expected hentry).symm.trans h)

/-- What a gap does, by the station state in which it shows (R85, R45, R46). -/
def GapShown (s t : State) : Prop :=
  t.timer.frame = s.timer.frame ∧ t.sub = s.sub ∧ t.obj = s.obj ∧ t.svc = s.svc ∧
    (s.ctl.state = .member →
      t.ctl = { s.ctl with state := .joining, joinReason := .resync, resyncCause := .gap } ∧
      t.snap.eLost = some (plusLead s.timer.frame s.cfg.lead) ∧ t.snap.coll = .waiting ∧ t.snap.streaming = false ∧
      t.events.wall.stateChanged = true ∧ t.events.wall.resyncStarted = true ∧ t.comp.showing = false ∧
      t.shows = { s.shows with deferred := none }) ∧
    (s.ctl.state = .joining →
      t.ctl = s.ctl ∧ t.snap = { s.snap with
        coll := if s.snap.coll = .collecting then .waiting else s.snap.coll, eLost := some (plusLead s.timer.frame s.cfg.lead) } ∧
      t.events = { s.events with
        wall.snapshotAbandoned := s.events.wall.snapshotAbandoned || s.snap.coll == .collecting }) ∧
    (s.ctl.state = .listening →
      t.ctl = s.ctl ∧ t.snap = { s.snap with eLost := some (plusLead s.timer.frame s.cfg.lead) } ∧ t.events = s.events) ∧
    (s.ctl.state = .leaving → t.ctl = s.ctl ∧ t.snap = s.snap ∧ t.events = s.events ∧ t.shows = s.shows)

theorem State.abandon_eq (s : State) :
    s.abandon =
      { s with
        snap.coll := if s.snap.coll = .collecting then .waiting else s.snap.coll
        events.wall.snapshotAbandoned := s.events.wall.snapshotAbandoned || s.snap.coll == .collecting } := by
  by_cases h : s.snap.coll = .collecting
  · simp [State.abandon, h]
  · have hother : (s.snap.coll == .collecting) = false := beq_eq_false_iff_ne.2 h
    simp [State.abandon, h, hother]

theorem State.gapEffect_shown (s : State) (hdel : delivers s.ctl.state = true) : GapShown s s.gapEffect := by
  cases hst : s.ctl.state with
  | member =>
    have heq : s.gapEffect = s.resync .gap := by simp only [State.gapEffect, hst]
    rw [heq]
    exact ⟨rfl, rfl, rfl, rfl, fun _ => ⟨rfl, rfl, rfl, Bool.and_false _, rfl, rfl, Bool.and_false _, rfl⟩,
      fun h => absurd (hst.symm.trans h) nofun, fun h => absurd (hst.symm.trans h) nofun, fun h => absurd (hst.symm.trans h) nofun⟩
  | joining =>
    have heq : s.gapEffect = { s.abandon with snap.eLost := some s.abandon.frameLead } := by simp only [State.gapEffect, hst]
    rw [heq, s.abandon_eq]
    exact ⟨rfl, rfl, rfl, rfl, fun h => absurd (hst.symm.trans h) nofun, fun _ => ⟨rfl, rfl, rfl⟩,
      fun h => absurd (hst.symm.trans h) nofun, fun h => absurd (hst.symm.trans h) nofun⟩
  | listening =>
    have heq : s.gapEffect = { s with snap.eLost := some s.frameLead } := by simp only [State.gapEffect, hst]
    rw [heq]
    exact ⟨rfl, rfl, rfl, rfl, fun h => absurd (hst.symm.trans h) nofun, fun h => absurd (hst.symm.trans h) nofun,
      fun _ => ⟨rfl, rfl, rfl⟩, fun h => absurd (hst.symm.trans h) nofun⟩
  | leaving =>
    have heq : s.gapEffect = s := by simp only [State.gapEffect, hst]
    rw [heq]
    exact ⟨rfl, rfl, rfl, rfl, fun h => absurd (hst.symm.trans h) nofun, fun h => absurd (hst.symm.trans h) nofun,
      fun h => absurd (hst.symm.trans h) nofun, fun _ => ⟨rfl, rfl, rfl, rfl⟩⟩
  | offline => rw [hst] at hdel; cases hdel
  | fault => rw [hst] at hdel; cases hdel
  | loopback => rw [hst] at hdel; cases hdel

/-- A peer that is entered as MEMBER: the entry expects `expected`, and ROSTER_CHANGED is raised (R54, R55). -/
def State.entered (k : Position) (expected : SeqNum) (s : State) : State :=
  { s with roster := s.roster.set k ⟨.member, 0, some expected, none⟩, events.wall.rosterChanged := true }

theorem State.roster_entered (k : Position) (expected : SeqNum) (s : State) :
    (s.entered k expected).roster[k] = ⟨.member, 0, some expected, none⟩ :=
  s.roster_setEntry_self k _

/-- A JOINING entry, and in LISTENING and JOINING an ABSENT or LEAVING one, is entered as MEMBER (R55). -/
theorem State.rosterStep_to_member {m : Message} {s : State} (hb : m.body = .idle)
    (h : s.roster[m.sender].state = .joining ∨
      ((s.roster[m.sender].state = .absent ∨ s.roster[m.sender].state = .leaving) ∧
        (s.ctl.state = .listening ∨ s.ctl.state = .joining))) :
    s.rosterStep m =
      s.entered m.sender (if s.roster[m.sender].state = .joining then m.mark else s.roster[m.sender].expected.getD m.mark) := by
  rcases h with h | ⟨h, hst⟩
  · rw [State.rosterStep_of_joining hb h, if_pos h, State.updateEntry_to_member rfl (by rw [h]; exact nofun)]
    rfl
  · have hother : s.roster[m.sender].state ≠ .joining := by rcases h with h | h <;> rw [h] <;> exact nofun
    have hpeer : s.roster[m.sender].state ≠ .member := by rcases h with h | h <;> rw [h] <;> exact nofun
    rw [State.rosterStep_entered hb h hst, if_neg hother, State.updateEntry_to_member rfl hpeer]
    rfl

/-- What follows is what a MEMBER entry brings (R55). -/
theorem State.deliver_entered {m : Message} {s : State} {expected : SeqNum} (hb : m.body = .idle) (hstate : m.state = .member)
    (hroster : s.rosterStep m = s.entered m.sender expected) : s.deliver m = (s.entered m.sender expected).deliver m := by
  have hentry := s.roster_entered m.sender expected
  have hmember : (s.entered m.sender expected).roster[m.sender].state = .member := congrArg Entry.state hentry
  have hagain : (s.entered m.sender expected).rosterStep m = s.entered m.sender expected := by
    rw [State.rosterStep_of_member hb hmember, hentry]
    simp [State.setEntry, State.entered]
  rw [State.deliver_idle_of_member hb hstate hroster hmember, State.deliver_idle_of_member hb hstate hagain hmember]
  rfl

/-- In LEAVING an ABSENT or LEAVING entry keeps its state (R55). -/
theorem State.deliver_idle_in_leaving {m : Message} {s : State} (hb : m.body = .idle) (hst : s.ctl.state = .leaving)
    (hpeer : s.roster[m.sender].state = .absent ∨ s.roster[m.sender].state = .leaving) : s.deliver m = s.missCleared m.sender := by
  have hroster : s.rosterStep m = s.missCleared m.sender := State.rosterStep_in_leaving hb hpeer hst
  have hentry := s.roster_missCleared m.sender
  have hother : (s.missCleared m.sender).roster[m.sender].state ≠ .member := by
    rw [hentry]
    rcases hpeer with h | h <;> rw [h] <;> exact nofun
  rw [State.deliver_idle_of_not_member hb hroster hother]
  exact State.controllerStep_of_inStep (s := s.missCleared m.sender) _ (.inl hst)

/-- While no collection can go on or begin, a PART brings the snapshot unit nothing (R135, R137). -/
theorem State.takePart_ignored {sender : Position} {f : Frame} {index count : Byte} {data : List Byte} {s : State}
    (h : s.snap.coll = .idle ∨ (s.snap.coll = .waiting ∧ ∃ e, s.snap.eLost = some e ∧ frameAfter e f = true)) :
    s.takePart sender f index count data = s := by
  rcases h with h | ⟨h, e, he, hafter⟩
  · simp only [State.takePart, h]
  · have hno : s.isPartZero sender f index count data = false := by simp [State.isPartZero, notBeforeLost, he, hafter]
    simp only [State.takePart, h, State.judgePartZero, hno, Bool.false_eq_true, if_false]

end Sys2Proof.Machine

namespace Sys2Proof.Proofs

open Sys2Proof Sys2Proof.Machine

/-- Settles O17: the roster alone takes a JOIN or LEAVE. -/
theorem joinAndLeaveMessagesUpdateEntry : Obligations.JoinAndLeaveMessagesUpdateEntry := by
  intro m s hear hdel e he
  refine congrArg Host.Outcome.next ?_
  change effect (.messageReceived (messageBytes m) true) s = _
  have hsender : m.state = m.body.senderState := hear.1.1
  rcases he with ⟨⟨reason, hb⟩, rfl⟩ | ⟨f, hb, rfl⟩
  · have hstate : m.state ≠ .member := by rw [hsender, hb]; simp [Body.senderState]
    have hroster : s.rosterStep m = s.updateEntry m.sender ⟨.joining, 0, some m.mark, none⟩ := by simp only [State.rosterStep, hb]
    have hentry : (⟨.joining, 0, some m.mark, none⟩ : Entry).state ≠ .member := nofun
    rw [effect_heard_quiet hear hdel (by rw [hb]; trivial), State.deliver_of_sender_not_member (.inl ⟨reason, hb⟩) hstate, hroster,
      State.updateEntry_of_not_member hentry]
    rfl
  · have hstate : m.state ≠ .member := by rw [hsender, hb]; simp [Body.senderState]
    have hroster : s.rosterStep m = s.updateEntry m.sender ⟨.leaving, 0, s.roster[m.sender].expected, some f⟩ := by
      simp only [State.rosterStep, hb]
    have hentry : (⟨.leaving, 0, s.roster[m.sender].expected, some f⟩ : Entry).state ≠ .member := nofun
    rw [effect_heard_quiet hear hdel (by rw [hb]; trivial), State.deliver_of_sender_not_member (.inr ⟨f, hb⟩) hstate, hroster,
      State.updateEntry_of_not_member hentry]
    rfl

/-- Settles O18: in sequence, out of sequence, a PART, and an entry that is not MEMBER. -/
theorem sequenceCheckByStationState : Obligations.SequenceCheckByStationState := by
  have hinSequence : ∀ (m : Message) (s : State), s.mayHear m → m.body = .idle → s.roster[m.sender].state = .member →
      s.roster[m.sender].expected = some m.mark → s.InStep m →
      exec (.messageReceived (messageBytes m) true) s = .next
        { s with
          bus.rxBuffer := messageBytes m, bus.attempt := .ended, bus.delivered := true
          roster := s.roster.set m.sender { s.roster[m.sender] with miss := 0 } } := by
    intro m s hear hb hpeer hmark hstep
    refine congrArg Host.Outcome.next ?_
    change effect (.messageReceived (messageBytes m) true) s = _
    have hdel : delivers s.ctl.state = true := by rcases hstep with h | ⟨h, -⟩ | ⟨h | h, -⟩ <;> rw [h] <;> rfl
    rw [effect_heard_quiet hear hdel (quiet_of_idle hb),
      State.deliver_idle_in_sequence hb (state_of_idle hear.1 hb) hpeer hmark hstep]
    rfl
  refine ⟨hinSequence, fun m s hear hb hpeer hmark hframe hheard hdel => ?_, fun m f i n data s hear hb hdel => ?_,
    fun m s hear hb hentry => ?_, fun m s hear hb hst hentry => ?_⟩
  · refine ⟨effect (.messageReceived (messageBytes m) true) s, rfl, ?_⟩
    have hshown := (s.expecting m.sender m.mark).gapEffect_shown hdel
    obtain ⟨hfr, hsub, hobj, hsvc, hmember, hjoining, hlistening, hleaving⟩ := hshown
    rw [effect_heard_quiet hear hdel (quiet_of_idle hb),
      State.deliver_idle_gap hb (state_of_idle hear.1 hb) hpeer hmark (State.inStep_of_delivers hdel hheard hframe)]
    refine ⟨?_, hfr, ?_, hsub, hobj, hsvc, hmember, hjoining, hlistening, hleaving⟩
    · exact (s.expecting m.sender m.mark).gapEffect_keeps.2.2.1
    · exact (s.expecting m.sender m.mark).gapEffect_keeps.2.2.2.2.1
  · have hstate : m.state = .member := by rw [hear.1.1, hb]; rfl
    have hidle := hear.of_idle hstate
    refine ⟨effect (.messageReceived (messageBytes { m with body := .idle }) true) s, rfl, fun hcoll => ?_⟩
    refine congrArg Host.Outcome.next ?_
    change effect (.messageReceived (messageBytes m) true) s = _
    have hquiet : ({ m with body := .idle } : Message).body.quiet := trivial
    rw [effect_heard_quiet hidle hdel hquiet] at hcoll ⊢
    rw [effect_heard hear hdel, State.deliver_part _ hb]
    have hbus := ignoresBus_deliver hquiet s (s.setAttempt (messageBytes m) true).bus
    have hdelivered := (congrArg (State.takePart m.sender f i n data) hbus).trans (State.takePart_ignored hcoll)
    exact congrArg (fun v : State => { v with bus.delivered := true }) hdelivered
  · intro expected u
    have hdel : delivers s.ctl.state = true := by
      rcases hentry with ⟨-, h⟩ | ⟨-, h | h⟩
      · exact h
      · rw [h]; rfl
      · rw [h]; rfl
    have hroster : s.rosterStep m = u := State.rosterStep_to_member hb (hentry.imp_left And.left)
    have hsame : effect (.messageReceived (messageBytes m) true) s = effect (.messageReceived (messageBytes m) true) u := by
      have hearU : u.mayHear m := hear
      rw [effect_heard_quiet hear hdel (quiet_of_idle hb), effect_heard_quiet hearU hdel (quiet_of_idle hb)]
      exact congrArg (State.withBus _) (State.deliver_entered hb (state_of_idle hear.1 hb) hroster)
    refine ⟨congrArg Host.Outcome.next hsame, fun hmark hheard hframe => ?_⟩
    have hpeer : u.roster[m.sender] = ⟨.member, 0, some expected, none⟩ := s.roster_entered m.sender expected
    have hstepU : u.InStep m := State.inStep_of_delivers (s := u) hdel hheard hframe
    have hfinal := hinSequence m u hear hb (congrArg Entry.state hpeer) ((congrArg Entry.expected hpeer).trans (congrArg some hmark)) hstepU
    refine (congrArg Host.Outcome.next hsame).trans (hfinal.trans ?_)
    have hkept : u.roster.set m.sender { u.roster[m.sender] with miss := 0 } = u.roster := by
      rw [hpeer]
      simp [u]
    rw [hkept]
  · refine congrArg Host.Outcome.next ?_
    change effect (.messageReceived (messageBytes m) true) s = _
    rw [effect_heard_quiet hear (by rw [hst]; rfl) (quiet_of_idle hb), State.deliver_idle_in_leaving hb hst hentry]
    rfl

end Sys2Proof.Proofs

/-! SUPPORT. The records of a peer's CHANGES message (R83 to R88), for any number of them. -/

namespace Sys2Proof.Machine

/-! ### Arrival leaves the bus alone -/

theorem ignoresBus_discardRecord (r : HeldRecord) : IgnoresBus (State.discardRecord r) := by
  have hreceipted : IgnoresBus fun s => if r.origin = s.own then s.addReceipts [receiptOf r .discardedFull] else s :=
    .ite (fun _ _ => rfl) ignoresBus_id
  intro s b
  have hst : (s.withBus b).ctl.state = s.ctl.state := rfl
  have hr := hreceipted s b
  have ha := ignoresBus_abandon.comp hreceipted s b
  unfold State.discardRecord
  cases hc : s.ctl.state with
  | joining =>
    simp only [hst, hc]
    exact congrArg (fun v : State => { v with snap.eLost := some ((v.snap.eLost.map fun e => laterFrame e r.eff).getD r.eff) }) ha
  | listening =>
    simp only [hst, hc]
    exact congrArg (fun v : State => { v with snap.eLost := some ((v.snap.eLost.map fun e => laterFrame e r.eff).getD r.eff) }) hr
  | _ =>
    simp only [hst, hc]
    exact hr

theorem ignoresBus_acceptRecords (rs : List HeldRecord) : IgnoresBus (State.acceptRecords rs) := by
  have hone (r : HeldRecord) : IgnoresBus (State.acceptRecord r) :=
    .ite (.ite (fun _ _ => rfl) (ignoresBus_discardRecord r)) fun _ _ => rfl
  induction rs with
  | nil => exact fun _ _ => rfl
  | cons r rs ih => exact IgnoresBus.comp (g := State.acceptRecords rs) ih (hone r)

/-! ### A CHANGES message is heard (R83, R84) -/

/-- A CHANGES message does what an IDLE with its header does, and then its records arrive when the sender's entry is MEMBER. -/
theorem effect_heard_changes {m : Message} {rs : List (Change × Frame)} {s : State} (h : s.mayHear m) (hdel : delivers s.ctl.state = true)
    (hb : m.body = .changes rs) :
    effect (.messageReceived (messageBytes m) true) s =
      State.withBus (s.bus.heard (messageBytes m))
        (if (s.deliver { m with body := .idle }).roster[m.sender].state = .member then
          ((s.deliver { m with body := .idle }).setExpected m.sender (m.mark + BitVec.ofNat 8 rs.length)).acceptRecords
            (changesRecords m.sender m.mark rs)
        else s.deliver { m with body := .idle }) := by
  have hstate : m.state = .member := by rw [h.1.1, hb]; rfl
  have hbody : m.body.wellFormed m.frame := h.1.2.2
  have hrs : rs ≠ [] := by
    rw [hb] at hbody
    rintro rfl
    exact absurd hbody.1 (by simp)
  have hquiet : ({ m with body := .idle } : Message).body.quiet := trivial
  have hidle := ignoresBus_deliver hquiet s (s.setAttempt (messageBytes m) true).bus
  have hchanges := State.deliver_changes m rs (s.setAttempt (messageBytes m) true) hb hstate hrs
  have hidle' : State.deliver { m with body := .idle } (s.setAttempt (messageBytes m) true) = _ := hidle
  dsimp only at hchanges
  rw [hidle'] at hchanges
  rw [effect_heard h hdel, hchanges]
  have hroster : (State.withBus (s.setAttempt (messageBytes m) true).bus (s.deliver { m with body := .idle })).roster =
      (s.deliver { m with body := .idle }).roster := rfl
  rw [hroster]
  split
  · have haccept := ignoresBus_acceptRecords (changesRecords m.sender m.mark rs)
      ((s.deliver { m with body := .idle }).setExpected m.sender (m.mark + BitVec.ofNat 8 rs.length))
      (s.setAttempt (messageBytes m) true).bus
    exact congrArg (fun v : State => { v with bus.delivered := true }) haccept
  · rfl

theorem State.setExpected_expecting (k : Position) (a b : SeqNum) (s : State) : (s.expecting k a).setExpected k b = s.expecting k b := by
  have hentry : (s.expecting k a).roster[k] = { s.roster[k] with miss := 0, expected := some a } := s.roster_setEntry_self k _
  rw [State.setExpected, hentry]
  simp [State.expecting, State.setEntry]

/-- In step and in sequence the records arrive at a state that differs by the sender's entry alone. -/
theorem effect_heard_in_sequence {m : Message} {rs : List (Change × Frame)} {s : State} (h : s.mayHear m) (hb : m.body = .changes rs)
    (hpeer : s.roster[m.sender].state = .member) (hmark : s.roster[m.sender].expected = some m.mark) (hstep : s.InStep m) :
    effect (.messageReceived (messageBytes m) true) s =
      ((s.expecting m.sender (m.mark + BitVec.ofNat 8 rs.length)).acceptRecords (changesRecords m.sender m.mark rs)).withBus
        (s.bus.heard (messageBytes m)) := by
  have hdel : delivers s.ctl.state = true := by rcases hstep with h | ⟨h, -⟩ | ⟨h | h, -⟩ <;> rw [h] <;> rfl
  have hstate : m.state = .member := by rw [h.1.1, hb]; rfl
  have hidle : s.deliver { m with body := .idle } = s.missCleared m.sender :=
    State.deliver_idle_in_sequence (m := { m with body := .idle }) rfl hstate hpeer hmark hstep
  have hmember : (s.missCleared m.sender).roster[m.sender].state = .member :=
    (congrArg Entry.state (s.roster_missCleared m.sender)).trans hpeer
  rw [effect_heard_changes h hdel hb, hidle, if_pos hmember, State.setExpected_missCleared]

/-- Out of sequence they arrive after the gap has taken effect (R84, R85). -/
theorem effect_heard_gap {m : Message} {rs : List (Change × Frame)} {s : State} (h : s.mayHear m) (hdel : delivers s.ctl.state = true)
    (hb : m.body = .changes rs) (hpeer : s.roster[m.sender].state = .member) (hmark : s.roster[m.sender].expected ≠ some m.mark)
    (hstep : s.InStep m) :
    effect (.messageReceived (messageBytes m) true) s =
      (((s.expecting m.sender m.mark).gapEffect.setExpected m.sender (m.mark + BitVec.ofNat 8 rs.length)).acceptRecords
        (changesRecords m.sender m.mark rs)).withBus (s.bus.heard (messageBytes m)) := by
  have hstate : m.state = .member := by rw [h.1.1, hb]; rfl
  have hidle : s.deliver { m with body := .idle } = (s.expecting m.sender m.mark).gapEffect :=
    State.deliver_idle_gap (m := { m with body := .idle }) rfl hstate hpeer hmark hstep
  have hroster : (s.expecting m.sender m.mark).gapEffect.roster = (s.expecting m.sender m.mark).roster :=
    (s.expecting m.sender m.mark).gapEffect_keeps.2.2.1
  have hentry : (s.expecting m.sender m.mark).roster[m.sender] = { s.roster[m.sender] with miss := 0, expected := some m.mark } :=
    s.roster_setEntry_self m.sender _
  have hmember : (s.expecting m.sender m.mark).gapEffect.roster[m.sender].state = .member := by
    rw [hroster, hentry]
    exact hpeer
  rw [effect_heard_changes h hdel hb, hidle, if_pos hmember]

theorem changesRecords_one (k : Position) (mark : SeqNum) (c : Change) (eff : Frame) :
    changesRecords k mark [(c, eff)] = [⟨c, eff, k, mark⟩] := changesRecords_cons ..

/-- One record in step and in sequence. -/
theorem effect_heard_one {m : Message} {c : Change} {eff : Frame} {s : State} (h : s.mayHear m) (hb : m.body = .changes [(c, eff)])
    (hpeer : s.roster[m.sender].state = .member) (hmark : s.roster[m.sender].expected = some m.mark) (hstep : s.InStep m) :
    effect (.messageReceived (messageBytes m) true) s =
      ((s.expecting m.sender (m.mark + 1)).acceptRecord ⟨c, eff, m.sender, m.mark⟩).withBus (s.bus.heard (messageBytes m)) := by
  rw [effect_heard_in_sequence h hb hpeer hmark hstep, changesRecords_one]
  rfl

/-! ### E_lost through a delivery (R40, R45, R85) -/

/-- E_lost is known where a record that is lost would move it. -/
def State.LostKnown (s : State) : Prop :=
  s.ctl.state = .joining ∨ (s.ctl.state = .listening ∧ s.ctl.memberHeard = true) → s.snap.eLost.isSome = true

/-- E_lost is known in LISTENING and JOINING. -/
def State.LostSet (s : State) : Prop := s.ctl.state = .listening ∨ s.ctl.state = .joining → s.snap.eLost.isSome = true

theorem State.abandon_eLost (s : State) : s.abandon.snap.eLost = s.snap.eLost := by rw [State.abandon_eq]

theorem State.updateEntry_eLost (k : Position) (e : Entry) (s : State) : (s.updateEntry k e).snap.eLost = s.snap.eLost := by
  unfold State.updateEntry
  split
  · rfl
  · dsimp only
    split
    · exact State.abandon_eLost _
    · rfl

theorem State.LostKnown.updateEntry {s : State} (h : s.LostKnown) (k : Position) (e : Entry) : (s.updateEntry k e).LostKnown := by
  rw [State.LostKnown, State.updateEntry_eLost]
  simpa [State.LostKnown] using h

theorem State.LostKnown.rosterStep {s : State} (h : s.LostKnown) (m : Message) : (s.rosterStep m).LostKnown := by
  have hset (e : Entry) : (s.setEntry m.sender e).LostKnown := h
  have hmerge : (s.mergeRule m).LostKnown := by
    unfold State.mergeRule
    dsimp only
    split
    · split
      · exact h.updateEntry _ _
      · exact fun _ => rfl
    · split
      · exact fun _ => rfl
      · exact hset _
  unfold State.rosterStep
  dsimp only
  repeat' split
  all_goals first | exact h.updateEntry _ _ | exact hset _ | exact hmerge

/-- After the station controller's step of a MEMBER message a listening has heard a member, and E_lost is known (R40). -/
theorem State.LostKnown.controllerStep {s : State} (h : s.LostKnown) (was : Bool) {m : Message} (hstate : m.state = .member) :
    (s.controllerStep was m).LostSet := by
  unfold State.controllerStep
  rw [if_pos hstate]
  cases hst : s.ctl.state with
  | listening =>
    dsimp only
    split
    · next hheard => exact fun _ => h (.inr ⟨hst, hheard⟩)
    · exact fun _ => rfl
  | member =>
    dsimp only
    split
    · exact fun _ => rfl
    · exact fun h' => h'.elim (fun h' => absurd (hst.symm.trans h') nofun) fun h' => absurd (hst.symm.trans h') nofun
  | joining =>
    dsimp only
    split
    · exact fun _ => rfl
    · exact fun _ => h (.inl hst)
  | _ => exact fun h' => h'.elim (fun h' => absurd (hst.symm.trans h') nofun) fun h' => absurd (hst.symm.trans h') nofun

theorem State.LostSet.sequenceCheck {s : State} (h : s.LostSet) (k : Position) (mark : SeqNum) : (s.sequenceCheck k mark).LostSet := by
  unfold State.sequenceCheck
  split
  · exact h
  · unfold State.gapEffect
    split
    · exact fun _ => rfl
    · exact fun _ => rfl
    · exact fun _ => rfl
    all_goals exact h

theorem State.LostKnown.deliver_idle {m : Message} {s : State} (h : s.LostKnown) (hb : m.body = .idle) (hstate : m.state = .member) :
    (s.deliver m).LostSet := by
  have hcontroller := (h.rosterStep m).controllerStep (s.ctl.state == .member) hstate
  by_cases hpeer : (s.rosterStep m).roster[m.sender].state = .member
  · rw [State.deliver_idle_of_member hb hstate rfl hpeer]
    exact hcontroller.sequenceCheck _ _
  · rw [State.deliver_idle_of_not_member hb rfl hpeer]
    exact hcontroller

/-! ### Records of another origin -/

theorem origin_of_mem_changesRecords {k : Position} {mark : SeqNum} {rs : List (Change × Frame)} {r : HeldRecord}
    (h : r ∈ changesRecords k mark rs) : r.origin = k := by
  obtain ⟨i, hi, rfl⟩ := List.mem_mapIdx.1 h
  rfl

theorem Intake.refused_sub (frame : Frame) (lead : Byte) (rs : List HeldRecord) (x : Intake) {r : HeldRecord}
    (h : r ∈ (rs.foldl (Intake.take frame lead) x).refused) : r ∈ x.refused ∨ r ∈ rs := by
  induction rs generalizing x with
  | nil => exact .inl h
  | cons y rs ih =>
    rcases ih _ h with h | h
    · unfold Intake.take at h
      split at h
      · exact .inl h
      · split at h
        · exact .inl h
        · rcases List.mem_append.1 h with h | h
          · exact .inl h
          · exact .inr (List.mem_singleton.1 h ▸ List.mem_cons_self ..)
    · exact .inr (List.mem_cons_of_mem _ h)

/-- Records of another origin bring no receipt (R87). -/
theorem State.own_refused_eq_nil {rs : List HeldRecord} {s : State} (h : ∀ r ∈ rs, r.origin ≠ s.own) :
    ((s.intake rs).refused.filter fun r => r.origin == s.own) = [] := by
  refine List.filter_eq_nil_iff.2 fun r hr => ?_
  rcases Intake.refused_sub _ _ rs _ hr with h' | h'
  · cases h'
  · simp [h r h']

theorem laterFrame_self (e : Frame) : laterFrame e e = e := by
  simp [laterFrame]

/-- Where no collection is in progress and E_lost stands at the frame of the records already, the list alone changes (R87). -/
theorem State.withRecords_of_lost {rs : List HeldRecord} {s : State} (hforeign : ∀ r ∈ rs, r.origin ≠ s.own)
    (hcoll : s.ctl.state = .joining → s.snap.coll ≠ .collecting)
    (hlost : s.ctl.state = .listening ∨ s.ctl.state = .joining → s.snap.eLost = some s.frameLead) :
    s.withRecords rs = { s with sched.list := (s.intake rs).list, sched.outOfWindow := (s.intake rs).outOfWindow } := by
  have hnone := State.own_refused_eq_nil hforeign
  have habort : ¬((s.intake rs).refused ≠ [] ∧ s.ctl.state = .joining ∧ s.snap.coll = .collecting) := fun h => hcoll h.2.1 h.2.2
  have hkept : (if (s.intake rs).refused ≠ [] ∧ (s.ctl.state = .listening ∨ s.ctl.state = .joining) then
      s.snap.eLost.map fun e => laterFrame e s.frameLead else s.snap.eLost) = s.snap.eLost := by
    split
    · next h => rw [hlost h.2, Option.map_some, laterFrame_self]
    · rfl
  simp only [State.withRecords, hnone, List.map_nil, List.append_nil, if_neg habort, decide_eq_false habort, Bool.or_false, hkept]

theorem State.intake_congr {rs : List HeldRecord} {s t : State} (hframe : t.timer.frame = s.timer.frame) (hcfg : t.cfg = s.cfg)
    (hsched : t.sched = s.sched) : t.intake rs = s.intake rs := by
  rw [State.intake, State.intake, hframe, hcfg, hsched]

/-- A lost record of another origin moves E_lost in LISTENING and JOINING, and in JOINING ends a collection (R87, R140). -/
theorem State.discardRecord_foreign {r : HeldRecord} {s : State} {e : Frame} (hforeign : r.origin ≠ s.own)
    (hst : s.ctl.state = .joining ∨ s.ctl.state = .listening) (he : s.snap.eLost = some e) :
    s.discardRecord r =
      { s with
        snap.coll := if s.ctl.state = .joining ∧ s.snap.coll = .collecting then .waiting else s.snap.coll
        snap.eLost := some (laterFrame e r.eff)
        events.wall.snapshotAbandoned := s.events.wall.snapshotAbandoned ||
          decide (s.ctl.state = .joining ∧ s.snap.coll = .collecting) } := by
  unfold State.discardRecord
  rcases hst with hst | hst
  · have hdecide : (s.snap.coll == .collecting) = decide (s.snap.coll = .collecting) := by cases s.snap.coll <;> rfl
    simp [hst, hforeign, State.abandon_eq, he, hdecide]
  · simp [hst, hforeign, he]

/-- A lost record of another origin brings nothing outside LISTENING and JOINING (R87). -/
theorem State.discardRecord_foreign_settled {r : HeldRecord} {s : State} (hforeign : r.origin ≠ s.own)
    (hst : s.ctl.state = .member ∨ s.ctl.state = .leaving) : s.discardRecord r = s := by
  unfold State.discardRecord
  rcases hst with hst | hst <;> simp only [hst, hforeign, if_false]

/-- A record out of window is counted (R86, R88). -/
theorem State.acceptRecord_out {r : HeldRecord} {s : State} (h : (r.eff - s.timer.frame).toNat ≠ s.cfg.lead.toNat) :
    s.acceptRecord r =
      { s with sched.outOfWindow := if s.sched.outOfWindow = 255 then 255 else s.sched.outOfWindow + 1 } := by
  have hout : ¬inWindow s.timer.frame s.cfg.lead r.eff = true := fun h' => h (of_decide_eq_true h')
  rw [State.acceptRecord, if_neg hout, satInc_eq]

/-- What an arrival in step changes besides the list: in LISTENING and JOINING the snapshot unit and its event (R87, R140). -/
theorem State.discardRecord_foreign_keeps {r : HeldRecord} {s : State} (hforeign : r.origin ≠ s.own) :
    (s.discardRecord r).roster = s.roster ∧ (s.discardRecord r).sched = s.sched ∧ (s.discardRecord r).sub = s.sub := by
  unfold State.discardRecord
  cases hst : s.ctl.state <;> simp [hforeign]

/-- What an arriving record of another origin does, by its window and its room (R86, R87, R88). -/
theorem State.acceptRecord_foreign {r : HeldRecord} {s : State} (hforeign : r.origin ≠ s.own) :
    let inWin := (r.eff - s.timer.frame).toNat = s.cfg.lead.toNat
    let room := s.sched.list.length < 48 ∧ ∀ x ∈ s.sched.list, ¬(x.origin = r.origin ∧ x.seq = r.seq)
    (s.acceptRecord r).roster = s.roster ∧ (s.acceptRecord r).sub = s.sub ∧
      (inWin → room → (s.acceptRecord r).sched = { s.sched with list := insertHeld r s.sched.list }) ∧
      (inWin → ¬room → (s.acceptRecord r).sched = s.sched) ∧
      (¬inWin → (s.acceptRecord r).sched = { s.sched with
        outOfWindow := if s.sched.outOfWindow = 255 then 255 else s.sched.outOfWindow + 1 }) ∧
      (¬inWin ∨ room ∨ s.ctl.state = .member ∨ s.ctl.state = .leaving →
        (s.acceptRecord r).snap = s.snap ∧ (s.acceptRecord r).events = s.events) := by
  intro inWin room
  by_cases hin : inWin
  · have heff : r.eff = s.frameLead := eff_of_inWindow hin
    by_cases hroom : room
    · rw [State.acceptRecord_room heff ((hasRoom_iff ..).2 hroom)]
      exact ⟨rfl, rfl, fun _ _ => rfl, fun _ h => absurd hroom h, fun h => absurd hin h, fun _ => ⟨rfl, rfl⟩⟩
    · obtain ⟨hroster, hsched, hsub⟩ := State.discardRecord_foreign_keeps hforeign
      rw [State.acceptRecord_full heff fun h => hroom ((hasRoom_iff ..).1 h)]
      refine ⟨hroster, hsub, fun _ h => absurd h hroom, fun _ _ => hsched, fun h => absurd hin h, ?_⟩
      rintro (h | h | h)
      · exact absurd hin h
      · exact absurd h hroom
      · rw [State.discardRecord_foreign_settled hforeign h]
        exact ⟨rfl, rfl⟩
  · rw [State.acceptRecord_out hin]
    exact ⟨rfl, rfl, fun h => absurd h hin, fun h => absurd h hin, fun _ => rfl, fun _ => ⟨rfl, rfl⟩⟩

/-- The numbers of a message's records differ from one another. -/
theorem nodup_seq_changesRecords (k : Position) (mark : SeqNum) (rs : List (Change × Frame)) (h : rs.length ≤ 48) :
    ((changesRecords k mark rs).map fun r => r.seq).Nodup := by
  have hseq : ((changesRecords k mark rs).map fun r => r.seq) = (List.range rs.length).map fun i => mark + BitVec.ofNat 8 i := by
    refine List.ext_getElem (by simp [changesRecords]) fun i h₁ h₂ => ?_
    simp [changesRecords]
  rw [hseq]
  refine List.Nodup.map_on (fun i hi j hj hij => ?_) List.nodup_range
  have hi' := List.mem_range.1 hi
  have hj' := List.mem_range.1 hj
  have hbits := congrArg BitVec.toNat (add_left_cancel hij)
  simpa [Nat.mod_eq_of_lt (show i < 256 by omega), Nat.mod_eq_of_lt (show j < 256 by omega)] using hbits

end Sys2Proof.Machine

namespace Sys2Proof.Proofs

open Sys2Proof Sys2Proof.Machine

theorem inStep_of_heard {m : Message} {s : State}
    (hst : s.ctl.state = .member ∨ s.ctl.state = .leaving ∨ s.ctl.state = .joining ∨ (s.ctl.state = .listening ∧ s.ctl.memberHeard = true))
    (hframe : s.ctl.state = .member ∨ s.ctl.state = .joining → s.reference = some m.sender → m.frame = s.timer.frame) : s.InStep m := by
  rcases hst with h | h | h | h
  · exact .inr (.inr ⟨.inl h, hframe (.inl h)⟩)
  · exact .inl h
  · exact .inr (.inr ⟨.inr h, hframe (.inr h)⟩)
  · exact .inr (.inl h)

/-- Settles O19: one record, several with room, one without room, any in sequence, any behind a gap, and any message at all. -/
theorem recordAcceptance : Obligations.RecordAcceptance := by
  refine ⟨fun m c eff s hear hb hpeer hmark hst hframe => ?_, fun m rs s hear hb hpeer hmark hst hframe hwin hroom hnew => ?_,
    fun m c eff e s hear hb hpeer hmark he hst hframe hwin hfull => ?_, fun m rs s hear hb hpeer hmark hst hframe hlost => ?_,
    fun m rs s hear hb hpeer hmark hframe hheard hdel => ?_, fun m rs s hear hb hdel hlost => ?_⟩
  · intro r inWin room
    have hforeign : r.origin ≠ (s.expecting m.sender (m.mark + 1)).own := hear.2.1
    have heffect : effect (.messageReceived (messageBytes m) true) s =
        ((s.expecting m.sender (m.mark + 1)).acceptRecord r).withBus (s.bus.heard (messageBytes m)) :=
      effect_heard_one hear hb hpeer hmark (inStep_of_heard hst hframe)
    refine ⟨effect (.messageReceived (messageBytes m) true) s, rfl, ?_⟩
    rw [heffect]
    obtain ⟨-, -, -, htimer, hctl, -, hobj, hshows, hcomp, hsvc, -, -⟩ := (s.expecting m.sender (m.mark + 1)).acceptRecord_keeps r
    obtain ⟨hroster, hsub, hroom, hfull, hout, hsnap⟩ := State.acceptRecord_foreign hforeign
    exact ⟨hroster, hroom, hfull, hout, hctl, htimer, hsub, hobj, hshows, hcomp, hsvc, hsnap⟩
  · intro taken
    refine congrArg Host.Outcome.next ?_
    change effect (.messageReceived (messageBytes m) true) s = _
    rw [effect_heard_in_sequence hear hb hpeer hmark (inStep_of_heard hst hframe)]
    have hlen : (changesRecords m.sender m.mark rs).length = rs.length := List.length_mapIdx
    refine congrArg (State.withBus _) (State.acceptRecords_room (s := s.expecting _ _) (fun r hr => ?_) (hlen.symm ▸ hroom)
      (nodup_seq_changesRecords _ _ _ (by omega)) fun x hx y hy hsame => ?_)
    · obtain ⟨i, hi, rfl⟩ := List.mem_mapIdx.1 hr
      exact eff_of_inWindow (hwin _ (List.getElem_mem hi))
    · obtain ⟨i, hi, rfl⟩ := List.mem_mapIdx.1 hy
      exact hnew x hx hsame.1 i hi hsame.2
  · intro aborts
    have hheard : s.ctl.state = .joining ∨ s.ctl.state = .listening := hst.imp_right And.left
    have hstep : s.InStep m := by
      rcases hst with h | h
      · exact .inr (.inr ⟨.inr h, hframe h⟩)
      · exact .inr (.inl h)
    refine congrArg Host.Outcome.next ?_
    change effect (.messageReceived (messageBytes m) true) s = _
    have heffect : effect (.messageReceived (messageBytes m) true) s =
        ((s.expecting m.sender (m.mark + 1)).acceptRecord ⟨c, eff, m.sender, m.mark⟩).withBus (s.bus.heard (messageBytes m)) :=
      effect_heard_one hear hb hpeer hmark hstep
    have hno : ¬hasRoom ⟨c, eff, m.sender, m.mark⟩ s.sched.list = true := by
      rw [hasRoom_iff]
      rintro ⟨hlen, hnew⟩
      rcases hfull with h | ⟨x, hx, hsame⟩
      · omega
      · exact hnew x hx hsame
    rw [heffect, State.acceptRecord_full (s := s.expecting _ _) (eff_of_inWindow hwin) hno,
      State.discardRecord_foreign (s := s.expecting _ _) hear.2.1 hheard he]
    rfl
  · refine congrArg Host.Outcome.next ?_
    change effect (.messageReceived (messageBytes m) true) s = _
    rw [effect_heard_in_sequence hear hb hpeer hmark (inStep_of_heard hst hframe),
      State.acceptRecords_eq _ (s.expecting _ _) fun h => hlost h.symm]
    rfl
  · intro x
    refine ⟨effect (.messageReceived (messageBytes m) true) s, rfl, ?_⟩
    rw [effect_heard_gap hear hdel hb hpeer hmark (State.inStep_of_delivers hdel hheard hframe)]
    generalize hg : (s.expecting m.sender m.mark).gapEffect = g
    have hshown : GapShown s (g.setExpected m.sender (m.mark + BitVec.ofNat 8 rs.length)) :=
      hg ▸ (s.expecting m.sender m.mark).gapEffect_shown hdel
    have hkeeps := (s.expecting m.sender m.mark).gapEffect_keeps
    rw [hg] at hkeeps
    obtain ⟨hstraps, hcfg, hroster, -, hsched, -, -, -, -⟩ := hkeeps
    have hentry : (g.setExpected m.sender (m.mark + BitVec.ofNat 8 rs.length)).roster =
        (s.expecting m.sender (m.mark + BitVec.ofNat 8 rs.length)).roster := by
      refine Eq.trans ?_ (congrArg State.roster (s.setExpected_expecting m.sender m.mark _))
      exact congrArg (fun ro : Vector Entry 16 =>
        ro.set m.sender { ro[m.sender] with expected := some (m.mark + BitVec.ofNat 8 rs.length) }) hroster
    generalize hv : g.setExpected m.sender (m.mark + BitVec.ofNat 8 rs.length) = v at hshown hentry ⊢
    obtain ⟨hfr, hsub, hobj, hsvc, hmember, hjoining, hlistening, hleaving⟩ := hshown
    have hvcfg : v.cfg = s.cfg := hv ▸ hcfg
    have hvsched : v.sched = s.sched := hv ▸ hsched
    have hvown : v.own = s.own := congrArg Straps.pos (hv ▸ hstraps : v.straps = s.straps)
    have hlead : v.frameLead = s.frameLead := by rw [State.frameLead, State.frameLead, hfr, hvcfg]
    have hforeign : ∀ r ∈ changesRecords m.sender m.mark rs, r.origin ≠ v.own := fun r hr => by
      rw [origin_of_mem_changesRecords hr, hvown]
      exact hear.2.1
    have hsettled : (v.ctl.state = .joining → v.snap.coll ≠ .collecting) ∧
        (v.ctl.state = .listening ∨ v.ctl.state = .joining → v.snap.eLost = some v.frameLead) := by
      rw [hlead]
      cases hst : s.ctl.state with
      | member =>
        obtain ⟨-, he, hc, -⟩ := hmember hst
        exact ⟨fun _ => by rw [hc]; exact nofun, fun _ => he⟩
      | joining =>
        obtain ⟨-, hsnap, -⟩ := hjoining hst
        refine ⟨fun _ => ?_, fun _ => congrArg Snapshot.eLost hsnap⟩
        rw [congrArg Snapshot.coll hsnap]
        dsimp only
        split
        · exact nofun
        · next h => exact h
      | listening =>
        obtain ⟨hctl, hsnap, -⟩ := hlistening hst
        exact ⟨fun h => absurd ((congrArg Controller.state hctl).symm.trans h) (by rw [hst]; exact nofun), fun _ => congrArg Snapshot.eLost hsnap⟩
      | leaving =>
        have hctl : v.ctl.state = .leaving := (congrArg Controller.state (hleaving hst).1).trans hst
        rw [hctl]
        exact ⟨nofun, nofun⟩
      | offline => rw [hst] at hdel; cases hdel
      | fault => rw [hst] at hdel; cases hdel
      | loopback => rw [hst] at hdel; cases hdel
    obtain ⟨hcoll, hlost⟩ := hsettled
    rw [State.acceptRecords_eq _ v fun h => by rw [hlost h]; rfl, State.withRecords_of_lost hforeign hcoll hlost,
      State.intake_congr hfr hvcfg hvsched]
    refine ⟨hentry, ?_, hfr, hsub, hobj, hsvc, hmember, hjoining, hlistening, hleaving⟩
    rw [← hvsched]
    rfl
  · have hstate : m.state = .member := by rw [hear.1.1, hb]; rfl
    have hidle := hear.of_idle hstate
    have hquiet : ({ m with body := .idle } : Message).body.quiet := trivial
    have hset : (s.deliver { m with body := .idle }).LostSet := State.LostKnown.deliver_idle (m := { m with body := .idle }) hlost rfl hstate
    refine ⟨effect (.messageReceived (messageBytes { m with body := .idle }) true) s, rfl, ?_⟩
    refine congrArg Host.Outcome.next ?_
    change effect (.messageReceived (messageBytes m) true) s = _
    rw [effect_heard_changes hear hdel hb, effect_heard_quiet hidle hdel hquiet]
    generalize s.deliver { m with body := .idle } = d at hset ⊢
    have hroster : (d.withBus (s.bus.heard (messageBytes { m with body := .idle }))).roster = d.roster := rfl
    rw [hroster]
    split
    · rw [State.acceptRecords_eq _ (d.setExpected _ _) hset]
      rfl
    · rfl

end Sys2Proof.Proofs

/-! SUPPORT. Frame numbers and the order of the pending list (R26, R80). -/

namespace Sys2Proof.Machine

theorem frameAfter_iff (a b : Frame) :
    frameAfter a b = true ↔ 1 ≤ (a.toNat + 65536 - b.toNat) % 65536 ∧ (a.toNat + 65536 - b.toNat) % 65536 ≤ 32767 := by
  have hb := b.isLt
  have hsub : (a - b).toNat = (a.toNat + 65536 - b.toNat) % 65536 := by
    rw [BitVec.toNat_sub, Nat.add_comm, ← Nat.add_sub_assoc (by omega)]
  rw [frameAfter, decide_eq_true_eq, hsub]

/-- The place of a record in a list whose frames are counted from `base` (R80). -/
def HeldRecord.place (base : Frame) (x : HeldRecord) : Nat := 16 * (x.eff - base).toNat + x.origin.val

/-- Within half the frame count a record stands behind another when its place is higher (R80). -/
theorem standsBehind_iff {base : Frame} {x r : HeldRecord} (hx : (x.eff - base).toNat ≤ 32767) (hr : (r.eff - base).toNat ≤ 32767) :
    standsBehind x r = true ↔ r.place base < x.place base := by
  have hxo := x.origin.isLt
  have hro := r.origin.isLt
  have hxl := x.eff.isLt
  have hrl := r.eff.isLt
  have hbl := base.isLt
  have hxs := BitVec.toNat_sub x.eff base
  have hrs := BitVec.toNat_sub r.eff base
  have heq : x.eff = r.eff ↔ x.eff.toNat = r.eff.toNat := BitVec.toNat_inj.symm
  rw [standsBehind, Bool.or_eq_true, Bool.and_eq_true, beq_iff_eq, decide_eq_true_eq, frameAfter_iff, heq, Fin.lt_def,
    HeldRecord.place, HeldRecord.place]
  omega

/-- A record takes its place before the first that stands behind it (R80). -/
theorem insertHeld_split (r : HeldRecord) (l : List HeldRecord) :
    insertHeld r l = l.takeWhile (fun x => !standsBehind x r) ++ r :: l.dropWhile fun x => !standsBehind x r := by
  induction l with
  | nil => rfl
  | cons x l ih =>
    cases h : standsBehind x r with
    | true => simp [insertHeld, h]
    | false => simp [insertHeld, h, ih]

/-- Behind the first record that stands behind a new one, all do, in a list in order. -/
theorem standsBehind_of_mem_dropWhile {base : Frame} {r : HeldRecord} {l : List HeldRecord}
    (hhalf : ∀ x ∈ r :: l, (x.eff - base).toNat ≤ 32767) (hsorted : l.Pairwise fun a b => a.place base ≤ b.place base)
    {x : HeldRecord} (hx : x ∈ l.dropWhile fun x => !standsBehind x r) : r.place base < x.place base := by
  induction l with
  | nil => cases hx
  | cons y l ih =>
    obtain ⟨hfirst, hrest⟩ := List.pairwise_cons.1 hsorted
    have hr := hhalf r (List.mem_cons_self ..)
    have hy := hhalf y (List.mem_cons_of_mem _ (List.mem_cons_self ..))
    cases hbehind : standsBehind y r with
    | true =>
      rw [List.dropWhile_cons_of_neg (by simp [hbehind])] at hx
      have hlt := (standsBehind_iff hy hr).1 hbehind
      rcases List.mem_cons.1 hx with rfl | hx
      · exact hlt
      · exact hlt.trans_le (hfirst x hx)
    | false =>
      rw [List.dropWhile_cons_of_pos (by simp [hbehind])] at hx
      refine ih (fun z hz => hhalf z ?_) hrest hx
      rcases List.mem_cons.1 hz with rfl | hz
      · exact List.mem_cons_self ..
      · exact List.mem_cons_of_mem _ (List.mem_cons_of_mem _ hz)

theorem place_le_of_mem_takeWhile {base : Frame} {r : HeldRecord} {l : List HeldRecord}
    (hhalf : ∀ x ∈ r :: l, (x.eff - base).toNat ≤ 32767)
    {x : HeldRecord} (hx : x ∈ l.takeWhile fun x => !standsBehind x r) : x.place base ≤ r.place base := by
  have hbefore := List.mem_takeWhile_imp hx
  have hmem := (List.takeWhile_prefix _).subset hx
  have hiff := standsBehind_iff (hhalf x (List.mem_cons_of_mem _ hmem)) (hhalf r (List.mem_cons_self ..))
  refine Nat.not_lt.1 fun hlt => ?_
  rw [hiff.2 hlt] at hbefore
  cases hbefore

end Sys2Proof.Machine

namespace Sys2Proof.Proofs

open Sys2Proof Sys2Proof.Machine

/-- Settles O20: the comparison of frame numbers, and the place that a new record takes. -/
theorem frameOrderAndListOrder : Obligations.FrameOrderAndListOrder := by
  refine ⟨⟨frameAfter_iff, fun a => ?_, fun a b h => ?_⟩, ?_⟩
  · rw [← Bool.not_eq_true, frameAfter_iff]
    have ha := a.isLt
    omega
  · rw [frameAfter_iff] at h
    rw [← Bool.not_eq_true, frameAfter_iff]
    have ha := a.isLt
    have hb := b.isLt
    omega
  · intro base r l place hhalf hsorted
    have hbefore := fun x => place_le_of_mem_takeWhile (x := x) hhalf
    have hafter := fun x => standsBehind_of_mem_dropWhile (x := x) hhalf hsorted
    have hwhole := List.takeWhile_append_dropWhile (p := fun x => !standsBehind x r) (l := l)
    refine ⟨?_, _, _, hwhole.symm, insertHeld_split r l, hbefore, hafter⟩
    rw [← hwhole] at hsorted
    obtain ⟨hfirst, hlast, hcross⟩ := List.pairwise_append.1 hsorted
    rw [insertHeld_split]
    refine List.pairwise_append.2 ⟨hfirst, List.pairwise_cons.2 ⟨fun x hx => (hafter x hx).le, hlast⟩, fun x hx y hy => ?_⟩
    rcases List.mem_cons.1 hy with rfl | hy
    · exact hbefore x hx
    · exact hcross x hx y hy

end Sys2Proof.Proofs

/-! SUPPORT. A frame mismatch and the merge rule (R28 to R31, R40, R56, R57), and the close of a peer's slot (R8, R58). -/

namespace Sys2Proof.Machine

/-! ### The reference station (R60) -/

theorem find?_finRange_eq_some {p : Position → Bool} {k : Position} :
    (List.finRange 16).find? p = some k ↔ p k = true ∧ ∀ q, q < k → p q = false := by
  rw [List.find?_eq_some_iff_getElem]
  constructor
  · rintro ⟨hk, i, hi, heq, hbefore⟩
    refine ⟨hk, fun q hq => ?_⟩
    have hval : k.val = i := by simp [← heq]
    have hq' := hbefore q.val (by rw [← hval]; exact hq)
    simpa using hq'
  · rintro ⟨hk, hbefore⟩
    refine ⟨hk, k.val, by simp, by simp, fun j hj => ?_⟩
    have hj' := hbefore ⟨j, hj.trans k.isLt⟩ hj
    simpa using hj'

theorem State.reference_eq_some_iff {k : Position} {s : State} :
    s.reference = some k ↔ (s.entry k).state = .member ∧ ∀ q, q < k → (s.entry q).state ≠ .member := by
  rw [State.reference, find?_finRange_eq_some]
  simp

theorem State.entry_of_ne {p : Position} {s : State} (h : p ≠ s.own) : s.entry p = s.roster[p] := if_neg h

/-- An entry that becomes MEMBER is the reference when it is lower than the reference that was (R60). -/
theorem State.reference_entered_iff {k ref : Position} {n : SeqNum} {s : State} (hk : k ≠ s.own) (hpeer : s.roster[k].state ≠ .member)
    (href : s.reference = some ref) : (s.entered k n).reference = some k ↔ k < ref := by
  have hself : (s.entered k n).entry k = ⟨.member, 0, some n, none⟩ := (State.entry_of_ne (s := s.entered k n) hk).trans (s.roster_entered k n)
  have hother (q : Position) (hq : q ≠ k) : (s.entered k n).entry q = s.entry q := by
    by_cases hown : q = s.own
    · exact (if_pos hown).trans (if_pos hown).symm
    · exact (State.entry_of_ne (s := s.entered k n) hown).trans ((s.roster_setEntry_of_ne hq _).trans (State.entry_of_ne hown).symm)
  obtain ⟨hmember, hlowest⟩ := State.reference_eq_some_iff.1 href
  have hne : ref ≠ k := by
    rintro rfl
    rw [State.entry_of_ne hk] at hmember
    exact hpeer hmember
  rw [State.reference_eq_some_iff, hself]
  constructor
  · rintro ⟨-, hbefore⟩
    refine lt_of_not_ge fun hle => ?_
    have hlt : ref < k := lt_of_le_of_ne hle hne
    have hno := hbefore ref hlt
    rw [hother ref hne] at hno
    exact hno hmember
  · intro hlt
    refine ⟨rfl, fun q hq => ?_⟩
    rw [hother q hq.ne]
    exact hlowest q (hq.trans hlt)

/-- In JOINING the own entry is not MEMBER, and the lowest MEMBER peer is the reference (R60). -/
theorem State.reference_joining_iff {k : Position} {s : State} (hst : s.ctl.state = .joining) (hk : k ≠ s.own)
    (hpeer : s.roster[k].state = .member) : s.reference = some k ↔ ∀ p, p ≠ s.own → p < k → s.roster[p].state ≠ .member := by
  rw [State.reference_eq_some_iff, State.entry_of_ne hk]
  constructor
  · rintro ⟨-, hbefore⟩ p hown hp
    have hno := hbefore p hp
    rwa [State.entry_of_ne hown] at hno
  · intro hbefore
    refine ⟨hpeer, fun p hp => ?_⟩
    by_cases hown : p = s.own
    · have hentry : s.entry p = ownEntry s.ctl := if_pos hown
      rw [hentry]
      simp [ownEntry, ownEntryState, hst]
    · rw [State.entry_of_ne hown]
      exact hbefore p hown hp

/-! ### The station controller's step by the frame number (R28, R30, R31, R40) -/

theorem State.controllerStep_first {was : Bool} {m : Message} {s : State} (hstate : m.state = .member) (hst : s.ctl.state = .listening)
    (hheard : s.ctl.memberHeard = false) : s.controllerStep was m = s.firstMember m := by
  simp only [State.controllerStep, hstate, hst, hheard, if_true, Bool.false_eq_true, if_false]

theorem State.frameMismatch_iff (m : Message) (s : State) :
    s.frameMismatch m = true ↔ s.reference = some m.sender ∧ m.frame ≠ s.timer.frame := by
  simp [State.frameMismatch]

/-- The FRAME resync of a MEMBER station (R30, R46). -/
def State.frameResync (f : Frame) (s : State) : State := ((s.adopt f).clearPendingList).resync .frame

theorem State.controllerStep_mismatch {was : Bool} {m : Message} {s : State} (hstate : m.state = .member) (hst : s.ctl.state = .member)
    (href : s.reference = some m.sender) (hframe : m.frame ≠ s.timer.frame) : s.controllerStep was m = s.frameResync m.frame := by
  simp only [State.controllerStep, hstate, hst, (s.frameMismatch_iff m).2 ⟨href, hframe⟩, if_true]
  rfl

theorem State.controllerStep_restart {was : Bool} {m : Message} {s : State} (hstate : m.state = .member) (hst : s.ctl.state = .joining)
    (href : s.reference = some m.sender) (hframe : m.frame ≠ s.timer.frame) : s.controllerStep was m = s.restartJoining was m := by
  simp only [State.controllerStep, hstate, hst, (s.frameMismatch_iff m).2 ⟨href, hframe⟩, if_true]

theorem State.setExpected_of_expected {k : Position} {mark : SeqNum} {s : State} (h : s.roster[k].expected = some mark) :
    s.setExpected k mark = s := by
  have hentry : ({ s.roster[k] with expected := some mark } : Entry) = s.roster[k] := by rw [← h]
  have hself : s.setEntry k s.roster[k] = s := by simp [State.setEntry]
  rw [State.setExpected, hentry, hself]

/-- Where E_lost stands at the current frame + L already, a gap only sets the expected sequence (R85). -/
theorem State.sequenceCheck_of_lost {k : Position} {mark : SeqNum} {s : State}
    (hst : (s.ctl.state = .joining ∧ s.snap.coll ≠ .collecting) ∨ s.ctl.state = .listening)
    (hlost : s.snap.eLost = some s.frameLead) : s.sequenceCheck k mark = s.setExpected k mark := by
  by_cases hmark : s.roster[k].expected = some mark
  · rw [State.sequenceCheck_of_mark hmark, State.setExpected_of_expected hmark]
  · have hkept : { s.setExpected k mark with snap.eLost := some s.frameLead } = s.setExpected k mark := by
      rw [← hlost]
      rfl
    rw [State.sequenceCheck_of_gap hmark]
    rcases hst with ⟨hst, hcoll⟩ | hst
    · have hjoining : (s.setExpected k mark).gapEffect =
          { (s.setExpected k mark).abandon with snap.eLost := some (s.setExpected k mark).abandon.frameLead } := by
        have hst' : (s.setExpected k mark).ctl.state = .joining := hst
        simp only [State.gapEffect, hst']
      have habandon : (s.setExpected k mark).abandon = s.setExpected k mark := if_neg hcoll
      rw [hjoining, habandon]
      exact hkept
    · have hst' : (s.setExpected k mark).ctl.state = .listening := hst
      simp only [State.gapEffect, hst']
      exact hkept

/-- An IDLE of a MEMBER peer, after whose controller step E_lost stands: the entry expects the mark (R84, R85). -/
theorem State.deliver_idle_of_lost {m : Message} {s v : State} (hb : m.body = .idle) (hstate : m.state = .member)
    (hpeer : s.roster[m.sender].state = .member)
    (hcontroller : (s.missCleared m.sender).controllerStep (s.ctl.state == .member) m = v)
    (hst : (v.ctl.state = .joining ∧ v.snap.coll ≠ .collecting) ∨ v.ctl.state = .listening) (hlost : v.snap.eLost = some v.frameLead) :
    s.deliver m = v.setExpected m.sender m.mark := by
  have hroster : s.rosterStep m = s.missCleared m.sender := State.rosterStep_of_member hb hpeer
  have hmember : (s.missCleared m.sender).roster[m.sender].state = .member :=
    (congrArg Entry.state (s.roster_missCleared m.sender)).trans hpeer
  rw [State.deliver_idle_of_member hb hstate hroster hmember, hcontroller]
  exact State.sequenceCheck_of_lost hst hlost

theorem State.reference_missCleared (k : Position) (s : State) : (s.missCleared k).reference = s.reference := State.reference_setEntry rfl

/-- The first MEMBER message of a listening, an IDLE: whatever the sender's entry was, it is MEMBER and expects the mark (R28, R40). -/
theorem State.deliver_idle_first {m : Message} {s : State} (hb : m.body = .idle) (hstate : m.state = .member)
    (hst : s.ctl.state = .listening) (hheard : s.ctl.memberHeard = false) :
    s.deliver m =
      { s with
        roster := s.roster.set m.sender
          { (if s.roster[m.sender].state = .member then s.roster[m.sender] else absentEntry) with
            state := .member, miss := 0, expected := some m.mark }
        events.wall.rosterChanged := s.events.wall.rosterChanged || s.roster[m.sender].state != .member
        timer.frame := m.frame
        ctl.memberHeard := true
        snap.eLost := some (plusLead m.frame s.cfg.lead) } := by
  by_cases hpeer : s.roster[m.sender].state = .member
  · have hcontroller := State.controllerStep_first (was := s.ctl.state == .member) (s := s.missCleared m.sender) hstate hst hheard
    have hentry : ({ s.roster[m.sender] with state := .member, miss := 0, expected := some m.mark } : Entry) =
        { s.roster[m.sender] with miss := 0, expected := some m.mark } := by rw [← hpeer]
    have hunchanged : (s.roster[m.sender].state != .member) = false := by rw [hpeer]; rfl
    rw [State.deliver_idle_of_lost hb hstate hpeer hcontroller (.inr hst) rfl]
    simp only [if_pos hpeer, hentry, hunchanged, Bool.or_false]
    exact congrArg (State.firstMember m) (s.setExpected_missCleared m.sender m.mark)
  · have hchanged : (s.roster[m.sender].state != .member) = true := bne_iff_ne.2 hpeer
    have hto : s.roster[m.sender].state = .joining ∨
        ((s.roster[m.sender].state = .absent ∨ s.roster[m.sender].state = .leaving) ∧
          (s.ctl.state = .listening ∨ s.ctl.state = .joining)) := by
      cases he : s.roster[m.sender].state with
      | joining => exact .inl rfl
      | absent => exact .inr ⟨.inl rfl, .inl hst⟩
      | leaving => exact .inr ⟨.inr rfl, .inl hst⟩
      | member => exact absurd he hpeer
    have hroster := State.rosterStep_to_member hb hto
    generalize (if s.roster[m.sender].state = .joining then m.mark else s.roster[m.sender].expected.getD m.mark) = n at hroster
    have hcontroller := State.controllerStep_first (was := s.ctl.state == .member) (s := s.entered m.sender n) hstate hst hheard
    have hentry : (s.entered m.sender n).setExpected m.sender m.mark = s.entered m.sender m.mark := by
      rw [State.setExpected, State.roster_entered]
      simp [State.setEntry, State.entered]
    rw [State.deliver_idle_of_member hb hstate hroster (congrArg Entry.state (s.roster_entered m.sender n)), hcontroller,
      State.sequenceCheck_of_lost (s := (s.entered m.sender n).firstMember m) (.inr hst) rfl]
    simp only [if_neg hpeer, hchanged, Bool.or_true]
    exact congrArg (State.firstMember m) hentry

/-- What the FRAME restart of a joining leaves (R31). -/
def State.restarted (was : Bool) (m : Message) (s : State) : State :=
  { s with
    timer.frame := m.frame
    sched.list := []
    sub.receipts := s.sub.receipts ++ uncertainReceipts s.own s.sched.list
    snap.coll := if s.snap.coll = .collecting then .waiting else s.snap.coll
    snap.eLost := some (plusLead m.frame s.cfg.lead)
    ctl.joinReason := .resync
    ctl.resyncCause := if was then s.ctl.resyncCause else .frame
    events.wall.resyncStarted := true
    events.wall.snapshotAbandoned := s.events.wall.snapshotAbandoned || s.snap.coll == .collecting }

theorem State.restartJoining_eq (was : Bool) (m : Message) (s : State) : s.restartJoining was m = s.restarted was m := by
  rw [State.restartJoining, State.abandon_eq]
  rfl

theorem waiting_ne_collecting (c : Collection) : (if c = .collecting then Collection.waiting else c) ≠ .collecting := by
  split
  · exact nofun
  · next h => exact h

/-! ### The merge rule (R56, R57) -/

/-- What a merge resync has in common with the two others: the station joins, and its frame number is `f` (R46). -/
def ResyncedTo (cause : ResyncCause) (f : Frame) (roster : Vector Entry 16) (s t : State) : Prop :=
  t.ctl = { s.ctl with state := .joining, joinReason := .resync, resyncCause := cause } ∧ t.roster = roster ∧
    t.timer = { s.timer with frame := f } ∧ t.snap.eLost = some (plusLead f s.cfg.lead) ∧ t.snap.coll = .waiting ∧
    t.events.wall.rosterChanged = true ∧ t.events.wall.stateChanged = true ∧ t.events.wall.resyncStarted = true

theorem driving_joining (t : FrameTimer) (f : Frame) :
    ({ t with frame := f, driving := t.driving && transmits .joining } : FrameTimer) = { t with frame := f } :=
  congrArg (fun d => { t with frame := f, driving := d }) (Bool.and_true t.driving)

theorem State.updateEntry_memberEntry {k : Position} {n : SeqNum} {s : State} (hpeer : s.roster[k].state ≠ .member) :
    s.updateEntry k (memberEntry n) = s.entered k n := State.updateEntry_to_member rfl hpeer

theorem State.mergeRule_returning {m : Message} {s : State} (hpeer : s.roster[m.sender].state ≠ .member)
    (hreturns : inSet m.members s.own = true) :
    s.mergeRule m =
      if s.roster[m.sender].expected = some m.mark then s.entered m.sender m.mark else (s.entered m.sender m.mark).resync .gap := by
  simp only [State.mergeRule, hreturns, if_true, State.updateEntry_memberEntry hpeer]

theorem State.mergeRule_other {m : Message} {s : State} {ref low : Position} (hpeer : s.roster[m.sender].state ≠ .member)
    (hreturns : ¬inSet m.members s.own = true) (href : s.reference = some ref) (hlow : inSet m.members low = true)
    (hlowest : ∀ p, p < low → inSet m.members p = false) :
    s.mergeRule m =
      if low < ref ∨ (low = ref ∧ m.sender < s.own) then
        (((s.entered m.sender m.mark).adopt m.frame).clearPendingList).resync .merge
      else s.missCleared m.sender := by
  have hfound : lowestMember m.members = some low := find?_finRange_eq_some.2 ⟨hlow, hlowest⟩
  have hwins : otherWallWins m.members m.sender (s.reference.getD s.own) s.own = true ↔ low < ref ∨ (low = ref ∧ m.sender < s.own) := by
    simp [otherWallWins, hfound, href]
  simp only [State.mergeRule, hreturns, hwins, State.updateEntry_memberEntry hpeer]
  rfl

/-- An IDLE that the merge rule takes as `u`, whose entry expects the mark: the controller's step is what is left (R56). -/
theorem State.deliver_merged {m : Message} {s u : State} (hb : m.body = .idle) (hstate : m.state = .member)
    (hpeer : s.roster[m.sender].state = .absent ∨ s.roster[m.sender].state = .leaving) (hst : s.ctl.state = .member)
    (hrule : s.mergeRule m = u) (hentry : u.roster[m.sender] = ⟨.member, 0, some m.mark, none⟩) :
    s.deliver m = u.controllerStep true m := by
  have hroster : s.rosterStep m = u := (State.rosterStep_merge hb hpeer hst).trans hrule
  have hwas : (s.ctl.state == .member) = true := by rw [hst]; rfl
  have hkept : (u.controllerStep true m).roster[m.sender] = ⟨.member, 0, some m.mark, none⟩ := by
    rw [show (u.controllerStep true m).roster = u.roster from (u.controllerStep_keeps true m).2.2.1]
    exact hentry
  rw [State.deliver_idle_of_member hb hstate hroster (congrArg Entry.state hentry), hwas]
  exact State.sequenceCheck_of_mark (congrArg Entry.expected hkept)

end Sys2Proof.Machine

namespace Sys2Proof.Proofs

open Sys2Proof Sys2Proof.Machine

/-- Settles O21: in MEMBER, in a listening that has heard no member, and in JOINING. -/
theorem memberMessageSetsFrameNumber : Obligations.MemberMessageSetsFrameNumber := by
  refine ⟨fun m s hear hb hst hpeer href hframe => ?_, fun m s hear hb hst hheard => ?_, fun m s hear hb hst hpeer href hframe => ?_⟩
  · have hstate := state_of_idle hear.1 hb
    have hcontroller := State.controllerStep_mismatch (was := s.ctl.state == .member) (s := s.missCleared m.sender) hstate hst
      ((s.reference_missCleared _).trans href) hframe
    refine ⟨effect (.messageReceived (messageBytes m) true) s, rfl, ?_⟩
    rw [effect_heard_quiet hear (by rw [hst]; rfl) (quiet_of_idle hb),
      State.deliver_idle_of_lost hb hstate hpeer hcontroller (.inl ⟨rfl, nofun⟩) rfl]
    refine ⟨?_, ?_, rfl, rfl, rfl, rfl, rfl, Bool.and_false _, rfl, rfl, rfl, rfl, rfl, Bool.and_false _⟩
    · exact congrArg State.roster (s.setExpected_missCleared m.sender m.mark)
    · exact congrArg (fun d => { s.timer with frame := m.frame, driving := d }) (Bool.and_true s.timer.driving)
  · refine congrArg Host.Outcome.next ?_
    change effect (.messageReceived (messageBytes m) true) s = _
    rw [effect_heard_quiet hear (by rw [hst]; rfl) (quiet_of_idle hb), State.deliver_idle_first hb (state_of_idle hear.1 hb) hst hheard]
    rfl
  · have hstate := state_of_idle hear.1 hb
    have hcontroller := State.controllerStep_restart (was := s.ctl.state == .member) (s := s.missCleared m.sender) hstate hst
      ((s.reference_missCleared _).trans href) hframe
    refine congrArg Host.Outcome.next ?_
    change effect (.messageReceived (messageBytes m) true) s = _
    rw [State.restartJoining_eq] at hcontroller
    have hentry := s.setExpected_missCleared m.sender m.mark
    rw [effect_heard_quiet hear (by rw [hst]; rfl) (quiet_of_idle hb),
      State.deliver_idle_of_lost hb hstate hpeer hcontroller (.inl ⟨hst, waiting_ne_collecting _⟩) rfl]
    have hjoining : (s.ctl.state == .member) = false := by rw [hst]; rfl
    rw [hjoining]
    exact congrArg (fun v => (State.restarted false m v).withBus (s.bus.heard (messageBytes m))) hentry

/-- Settles O22: a returning station in sequence and out of it, the other wall, and the own wall. -/
theorem mergeRuleDecides : Obligations.MergeRuleDecides := by
  intro m ref s hear hb hst hpeer href returns inSequence entered resyncs listKept listCleared
  have hstate := state_of_idle hear.1 hb
  have hother : s.roster[m.sender].state ≠ .member := by rcases hpeer with h | h <;> rw [h] <;> exact nofun
  have hrefEntered := State.reference_entered_iff (n := m.mark) hear.2.1 hother href
  have hentry := s.roster_entered m.sender m.mark
  have hdeliver : effect (.messageReceived (messageBytes m) true) s = (s.deliver m).withBus (s.bus.heard (messageBytes m)) :=
    effect_heard_quiet hear (by rw [hst]; rfl) (quiet_of_idle hb)
  refine ⟨effect (.messageReceived (messageBytes m) true) s, rfl, ?_⟩
  rw [hdeliver]
  have hobj : (s.deliver m).obj = s.obj := by simp [State.deliver, State.snapshotStep, hb]
  refine ⟨hobj, (s.deliver_keeps m).2.2.1, fun hreturns hseq hframe => ?_, fun hreturns hseq hframe hlt => ?_,
    fun hreturns hseq hframe => ?_, fun hreturns hseq hframe hlowest => ?_, fun low hreturns hlow hmin => ⟨fun hwins => ?_, fun hloses => ?_⟩⟩
  · have hrule := (State.mergeRule_returning hother hreturns).trans (if_pos hseq)
    have hstep : (s.entered m.sender m.mark).InStep m := by
      refine .inr (.inr ⟨.inl hst, fun h => ?_⟩)
      rcases hframe with hframe | hlt
      · exact hframe
      · exact absurd (hrefEntered.1 h) hlt.asymm
    rw [State.deliver_merged hb hstate hpeer hst hrule hentry, State.controllerStep_of_inStep _ hstep]
    exact ⟨rfl, rfl, rfl, rfl, ⟨rfl, rfl⟩, rfl⟩
  · have hrule := (State.mergeRule_returning hother hreturns).trans (if_pos hseq)
    rw [State.deliver_merged hb hstate hpeer hst hrule hentry,
      State.controllerStep_mismatch (s := s.entered m.sender m.mark) hstate hst (hrefEntered.2 hlt) hframe]
    exact ⟨⟨rfl, rfl, driving_joining s.timer m.frame, rfl, rfl, rfl, rfl, rfl⟩, rfl, rfl⟩
  · have hrule := (State.mergeRule_returning hother hreturns).trans (if_neg hseq)
    have hrefJoining := State.reference_joining_iff (s := (s.entered m.sender m.mark).resync .gap) rfl hear.2.1 (congrArg Entry.state hentry)
    have hstep : ((s.entered m.sender m.mark).resync .gap).InStep m := by
      refine .inr (.inr ⟨.inr rfl, fun h => ?_⟩)
      rcases hframe with hframe | ⟨p, hown, hp, hmember⟩
      · exact hframe
      · refine absurd ?_ (hrefJoining.1 h p hown hp)
        exact (congrArg Entry.state (s.roster_setEntry_of_ne hp.ne _)).trans hmember
    rw [State.deliver_merged hb hstate hpeer hst hrule hentry, State.controllerStep_of_inStep _ hstep]
    exact ⟨⟨rfl, rfl, driving_joining s.timer s.timer.frame, rfl, rfl, rfl, rfl, rfl⟩, rfl, rfl⟩
  · have hrule := (State.mergeRule_returning hother hreturns).trans (if_neg hseq)
    have hrefJoining := State.reference_joining_iff (s := (s.entered m.sender m.mark).resync .gap) rfl hear.2.1 (congrArg Entry.state hentry)
    have hrefSender : ((s.entered m.sender m.mark).resync .gap).reference = some m.sender := by
      refine hrefJoining.2 fun p hown hp hmember => hlowest p hown hp ?_
      exact (congrArg Entry.state (s.roster_setEntry_of_ne hp.ne _)).symm.trans hmember
    rw [State.deliver_merged hb hstate hpeer hst hrule hentry,
      State.controllerStep_restart (s := (s.entered m.sender m.mark).resync .gap) hstate rfl hrefSender hframe, State.restartJoining_eq]
    exact ⟨⟨rfl, rfl, driving_joining s.timer m.frame, rfl, rfl, rfl, rfl, rfl⟩, rfl, rfl⟩
  · have hrule := (State.mergeRule_other hother hreturns href hlow hmin).trans (if_pos hwins)
    have hstep : ((((s.entered m.sender m.mark).adopt m.frame).clearPendingList).resync .merge).InStep m :=
      .inr (.inr ⟨.inr rfl, fun _ => rfl⟩)
    rw [State.deliver_merged hb hstate hpeer hst hrule hentry, State.controllerStep_of_inStep _ hstep]
    exact ⟨⟨rfl, rfl, driving_joining s.timer m.frame, rfl, rfl, rfl, rfl, rfl⟩, rfl, rfl⟩
  · have hrule := (State.mergeRule_other hother hreturns href hlow hmin).trans (if_neg hloses)
    have hroster : s.rosterStep m = s.missCleared m.sender := (State.rosterStep_merge hb hpeer hst).trans hrule
    have hkept : (s.missCleared m.sender).roster[m.sender].state ≠ .member := by
      rw [State.roster_missCleared]
      exact hother
    have hne : ref ≠ m.sender := by
      rintro rfl
      have hmember := (State.reference_eq_some_iff.1 href).1
      rw [State.entry_of_ne hear.2.1] at hmember
      exact hother hmember
    have hstep : (s.missCleared m.sender).InStep m := by
      refine .inr (.inr ⟨.inl hst, fun h => ?_⟩)
      rw [State.reference_missCleared, href] at h
      exact absurd (Option.some.inj h) hne
    rw [State.deliver_idle_of_not_member hb hroster hkept, State.controllerStep_of_inStep _ hstep]
    exact ⟨rfl, rfl, rfl, ⟨rfl, rfl⟩, rfl, rfl⟩

end Sys2Proof.Proofs

/-! SUPPORT. The close of a slot (R2, R5, R8, R58). -/

namespace Sys2Proof.Machine

/-- An attempt that the close of a slot finds unfinished is counted (R2, R5). -/
def State.unfinishedCounted (s : State) : State :=
  { s with
    bus.badMessages :=
      if s.bus.attempt = .receiving ∧ s.ctl.state ≠ .loopback ∧ s.bus.badMessages ≠ 255 then s.bus.badMessages + 1 else s.bus.badMessages }

theorem State.countBad_of_receiving (s : State) : (if s.bus.attempt = .receiving then s.countBad else s) = s.unfinishedCounted := by
  by_cases hatt : s.bus.attempt = .receiving
  · by_cases hloop : s.ctl.state = .loopback
    · simp [State.unfinishedCounted, State.countBad, hloop]
    · by_cases hfull : s.bus.badMessages = 255
      · simp [State.unfinishedCounted, State.countBad_eq hloop, hatt, hfull]
      · have hroom : ¬s.bus.badMessages = 255#8 := hfull
        simp [State.unfinishedCounted, State.countBad_eq hloop, hatt, hroom, hloop]
  · simp [State.unfinishedCounted, hatt]

/-- An entry whose miss count reaches S becomes ABSENT (R58). -/
theorem State.ageEntry_absent {k : Position} {s : State} (hmiss : s.cfg.silence.toNat ≤ min 15 (s.roster[k].miss + 1))
    (hpeer : s.roster[k].state ≠ .absent) :
    s.ageEntry k = s.updateEntry k ⟨.absent, min 15 (s.roster[k].miss + 1), s.roster[k].expected, none⟩ := if_pos ⟨hmiss, hpeer⟩

theorem State.ageEntry_missed {k : Position} {s : State}
    (h : min 15 (s.roster[k].miss + 1) < s.cfg.silence.toNat ∨ s.roster[k].state = .absent) :
    s.ageEntry k = s.setEntry k { s.roster[k] with miss := min 15 (s.roster[k].miss + 1) } := by
  refine if_neg fun ⟨hmiss, hpeer⟩ => ?_
  rcases h with h | h
  · exact absurd hmiss (Nat.not_le.2 h)
  · exact hpeer h

theorem State.closePeerSlot_heard {k : Position} {s : State} (h : s.bus.delivered = true ∨ delivers s.ctl.state = false) :
    s.closePeerSlot k = s.unfinishedCounted := by
  have hno : ¬(delivers s.ctl.state = true ∧ s.bus.delivered = false) := by rcases h with h | h <;> simp [h]
  exact (if_neg hno).trans s.countBad_of_receiving

theorem State.closePeerSlot_missed {k : Position} {s : State} (hdelivered : s.bus.delivered = false) (hdel : delivers s.ctl.state = true) :
    s.closePeerSlot k = s.unfinishedCounted.ageEntry k :=
  (if_pos ⟨hdel, hdelivered⟩).trans (congrArg (State.ageEntry k) s.countBad_of_receiving)

/-- The close of a peer's slot leaves the own message and the own slot alone. -/
theorem State.windowClosed_peer {k : Position} {s : State} (hk : k ≠ s.own) :
    s.windowClosed k =
      { s with
        timer.openSlot := none
        bus.attempt := if k.val = 15 ∧ s.ctl.state ≠ .loopback then .waiting else .off
        bus.delivered := false } := by
  have hown : (k == s.own) = false := beq_eq_false_iff_ne.2 hk
  have hother : (k != s.own) = true := bne_iff_ne.2 hk
  simp only [State.windowClosed, hown, hother, Bool.or_false, Bool.and_true]

end Sys2Proof.Machine

namespace Sys2Proof.Proofs

open Sys2Proof Sys2Proof.Machine

/-- Settles O23: a peer's slot with a message and without, and the own slot. -/
theorem slotCloseAgesEntry : Obligations.SlotCloseAgesEntry := by
  refine ⟨?_, fun s hslot hnone => ?_⟩
  · intro k s hk hslot miss aborts
    refine ⟨effect (.slotClose k) s, rfl, ?_⟩
    have hclose : effect (.slotClose k) s = (s.closePeerSlot k).windowClosed k :=
      (effect_slotClose hslot).trans (congrArg (State.windowClosed k) (if_neg hk))
    rw [hclose]
    have hbad : s.unfinishedCounted.bus.badMessages = (if s.bus.attempt = .receiving ∧ s.ctl.state ≠ .loopback ∧ s.bus.badMessages ≠ 255
      then s.bus.badMessages + 1 else s.bus.badMessages) := rfl
    by_cases hheard : s.bus.delivered = true ∨ delivers s.ctl.state = false
    · rw [State.closePeerSlot_heard hheard, State.windowClosed_peer (s := s.unfinishedCounted) hk]
      refine ⟨rfl, rfl, rfl, hbad, rfl, rfl, rfl, rfl, rfl, rfl, rfl, fun _ => ⟨rfl, rfl, rfl⟩, fun hdelivered hdel => ?_⟩
      rcases hheard with h | h
      · exact absurd (hdelivered.symm.trans h) nofun
      · exact absurd (h.symm.trans hdel) nofun
    · obtain ⟨hdelivered, hdel⟩ := not_or.1 hheard
      have hv : s.closePeerSlot k = s.unfinishedCounted.ageEntry k :=
        State.closePeerSlot_missed (Bool.eq_false_iff.2 hdelivered) (by simpa using hdel)
      by_cases hages : s.cfg.silence.toNat ≤ miss ∧ s.roster[k].state ≠ .absent
      · obtain ⟨hmiss, hpeer⟩ := hages
        have hchanged : (s.roster[k].state != .absent) = true := bne_iff_ne.2 hpeer
        have hentry : (⟨.absent, miss, s.roster[k].expected, none⟩ : Entry).state ≠ .member := nofun
        have haged : s.unfinishedCounted.ageEntry k = s.unfinishedCounted.updateEntry k ⟨.absent, miss, s.roster[k].expected, none⟩ :=
          State.ageEntry_absent hmiss hpeer
        have hraised : (s.events.wall.rosterChanged || (s.roster[k].state != .absent)) = true := by rw [hchanged, Bool.or_true]
        rw [hv, haged, State.updateEntry_of_not_member hentry, State.windowClosed_peer (by exact hk)]
        refine ⟨rfl, rfl, rfl, hbad, rfl, rfl, rfl, rfl, rfl, rfl, rfl, fun h => absurd h hheard, fun _ _ => ⟨fun _ _ => ⟨rfl, rfl, ?_⟩, ?_⟩⟩
        · exact congrArg (fun b => { s.events with
            wall.rosterChanged := b
            wall.snapshotAbandoned := s.events.wall.snapshotAbandoned || decide aborts }) hraised
        · rintro (h | h)
          · exact absurd hmiss (Nat.not_le.2 h)
          · exact absurd h hpeer
      · have hmissed : miss < s.cfg.silence.toNat ∨ s.roster[k].state = .absent := by
          by_cases hpeer : s.roster[k].state = .absent
          · exact .inr hpeer
          · exact .inl (Nat.not_le.1 fun h => hages ⟨h, hpeer⟩)
        have hset : s.unfinishedCounted.ageEntry k = s.unfinishedCounted.setEntry k { s.roster[k] with miss := miss } :=
          State.ageEntry_missed hmissed
        rw [hv, hset, State.windowClosed_peer (by exact hk)]
        exact ⟨rfl, rfl, rfl, hbad, rfl, rfl, rfl, rfl, rfl, rfl, rfl, fun h => absurd h hheard,
          fun _ _ => ⟨fun h h' => absurd ⟨h, h'⟩ hages, fun _ => ⟨rfl, rfl, rfl⟩⟩⟩
  · refine congrArg Host.Outcome.next ((effect_slotClose hslot).trans ?_)
    have hself : (s.own == s.own) = true := beq_self_eq_true _
    have hsending : (s.own != s.own) = false := bne_self_eq_false _
    rw [State.closeSlot, if_pos rfl, State.closeOwnSlot, hnone]
    cases hquiet : transmits s.ctl.state with
    | false =>
      have hcounted := s.countBad_of_receiving
      simp only [and_true, hcounted, true_and]
      change s.unfinishedCounted.windowClosed s.unfinishedCounted.own = _
      simp only [State.windowClosed, beq_self_eq_true, bne_self_eq_false, Bool.or_true, Bool.and_false]
      rfl
    | true => simp [State.windowClosed]

end Sys2Proof.Proofs

/-! SUPPORT. A PART message in JOINING: part 0, the next part, and what abandons a collection (R137 to R139). -/

namespace Sys2Proof.Machine

/-- In step and in sequence the snapshot unit alone takes a PART (R7, R135). -/
theorem effect_heard_part {m : Message} {f : Frame} {i n : Byte} {data : List Byte} {s : State} (h : s.mayHear m)
    (hb : m.body = .part f i n data) (hpeer : s.roster[m.sender].state = .member) (hmark : s.roster[m.sender].expected = some m.mark)
    (hstep : s.InStep m) :
    effect (.messageReceived (messageBytes m) true) s =
      { ((s.setAttempt (messageBytes m) true).missCleared m.sender).takePart m.sender f i n data with bus.delivered := true } := by
  have hdel : delivers s.ctl.state = true := by rcases hstep with h | ⟨h, -⟩ | ⟨h | h, -⟩ <;> rw [h] <;> rfl
  have hstate : m.state = .member := by rw [h.1.1, hb]; rfl
  have hidle : (s.setAttempt (messageBytes m) true).deliver { m with body := .idle } = (s.setAttempt (messageBytes m) true).missCleared m.sender :=
    State.deliver_idle_in_sequence (m := { m with body := .idle }) (s := s.setAttempt (messageBytes m) true) rfl hstate hpeer hmark hstep
  rw [effect_heard h hdel, State.deliver_part _ hb, hidle]

/-- The conditions of a part 0 (R137). -/
theorem State.isPartZero_iff {sender : Position} {f : Frame} {i n : Byte} {data : List Byte} {s : State} :
    s.isPartZero sender f i n data = true ↔
      s.reference = some sender ∧ i = 0 ∧ n = 19 ∧ data.length = 64 ∧ ∀ e, s.snap.eLost = some e → frameAfter e f = false := by
  have hcount : n.toNat = 19 ↔ n = 19 := ⟨fun h => BitVec.eq_of_toNat_eq h, fun h => by rw [h]; rfl⟩
  simp [State.isPartZero, notBeforeLost, Config.partCount, hcount, Option.all_eq_true, and_assoc]

/-- The conditions of the part that goes on with a collection (R138). -/
theorem State.partContinues_iff {f : Frame} {i n : Byte} {data : List Byte} {s : State} :
    s.partContinues f i n data = true ↔
      f = s.snap.collFrame ∧ n = 19 ∧ i.toNat = s.snap.nextExpected ∧ data.length = if s.snap.nextExpected < 18 then 64 else 32 := by
  have hcount : n.toNat = 19 ↔ n = 19 := ⟨fun h => BitVec.eq_of_toNat_eq h, fun h => by rw [h]; rfl⟩
  simp [State.partContinues, partLength, Config.partCount, hcount, and_assoc]

theorem writePart_getElem (i : Nat) (data : List Byte) (im : Image) (j : Fin 1184) :
    (writePart i data im)[j] =
      if 64 * i ≤ j.val ∧ j.val < 64 * i + data.length then data.getD (j.val - 64 * i) 0 else im[j] := by
  simp [writePart]

/-- A collection that begins with part 0 (R137). -/
def State.partZeroTaken (sender : Position) (f : Frame) (data : List Byte) (s : State) : State :=
  { s with
    snap.coll := .collecting
    snap.assembly := writePart 0 data s.snap.assembly
    snap.collFrame := f
    snap.collSource := sender
    snap.nextExpected := 1 }

theorem State.judgePartZero_eq {sender : Position} {f : Frame} {i n : Byte} {data : List Byte} {s : State} :
    s.judgePartZero sender f i n data = if s.isPartZero sender f i n data = true then s.partZeroTaken sender f data else s := rfl

theorem State.takePart_waiting {sender : Position} {f : Frame} {i n : Byte} {data : List Byte} {s : State} (h : s.snap.coll = .waiting) :
    s.takePart sender f i n data = s.judgePartZero sender f i n data := by
  simp only [State.takePart, h]

theorem State.takePart_other {sender : Position} {f : Frame} {i n : Byte} {data : List Byte} {s : State} (h : s.snap.coll = .collecting)
    (hsource : sender ≠ s.snap.collSource) : s.takePart sender f i n data = s := by
  simp only [State.takePart, h, hsource, if_false]

theorem State.takePart_goesOn {sender : Position} {f : Frame} {i n : Byte} {data : List Byte} {s : State} (h : s.snap.coll = .collecting)
    (hsource : sender = s.snap.collSource) (hgoes : s.partContinues f i n data = true) :
    s.takePart sender f i n data = s.collectPart data := by
  simp only [State.takePart, h, hsource, hgoes, if_true]

theorem State.takePart_abandoned {sender : Position} {f : Frame} {i n : Byte} {data : List Byte} {s : State} (h : s.snap.coll = .collecting)
    (hsource : sender = s.snap.collSource) (hgoes : ¬s.partContinues f i n data = true) :
    s.takePart sender f i n data = s.abandon.judgePartZero sender f i n data := by
  have hno : s.partContinues f i n data = false := Bool.eq_false_iff.2 hgoes
  simp only [State.takePart, h, hsource, hno, if_true, Bool.false_eq_true, if_false]

theorem State.collectPart_next {data : List Byte} {s : State} (h : s.snap.nextExpected < 18) :
    s.collectPart data =
      { s with
        snap.assembly := writePart s.snap.nextExpected data s.snap.assembly
        snap.nextExpected := s.snap.nextExpected + 1 } := if_pos h

/-- What a PART leaves that completes no collection (R135, R137 to R139). -/
theorem State.takePart_leaves {sender : Position} {f : Frame} {i n : Byte} {data : List Byte} {s : State}
    (h : ¬(s.snap.coll = .collecting ∧ sender = s.snap.collSource ∧ s.partContinues f i n data = true ∧ 18 ≤ s.snap.nextExpected)) :
    (s.takePart sender f i n data).ctl = s.ctl ∧ (s.takePart sender f i n data).sched = s.sched ∧
      (s.takePart sender f i n data).sub = s.sub ∧ (s.takePart sender f i n data).obj = s.obj ∧
      (s.takePart sender f i n data).shows = s.shows ∧ (s.takePart sender f i n data).comp = s.comp := by
  cases hcoll : s.snap.coll with
  | idle =>
    have hkept : s.takePart sender f i n data = s := State.takePart_ignored (.inl hcoll)
    rw [hkept]
    exact ⟨rfl, rfl, rfl, rfl, rfl, rfl⟩
  | waiting => simp [State.takePart_waiting hcoll]
  | collecting =>
    by_cases hsource : sender = s.snap.collSource
    · by_cases hgoes : s.partContinues f i n data = true
      · have hnext : s.snap.nextExpected < 18 := Nat.not_le.1 fun h' => h ⟨hcoll, hsource, hgoes, h'⟩
        rw [State.takePart_goesOn hcoll hsource hgoes, State.collectPart_next hnext]
        exact ⟨rfl, rfl, rfl, rfl, rfl, rfl⟩
      · simp [State.takePart_abandoned hcoll hsource hgoes]
    · rw [State.takePart_other hcoll hsource]
      exact ⟨rfl, rfl, rfl, rfl, rfl, rfl⟩

end Sys2Proof.Machine

namespace Sys2Proof.Proofs

open Sys2Proof Sys2Proof.Machine

/-- Settles O24: by the state of the collection, the sender, and the part. -/
theorem partMessageWhileJoining : Obligations.PartMessageWhileJoining := by
  intro m f i n data s hear hb hst hpeer hmark hframe part0 next goesOn starts
  have hstep : s.InStep m := .inr (.inr ⟨.inr hst, hframe⟩)
  refine ⟨effect (.messageReceived (messageBytes m) true) s, rfl, ?_⟩
  rw [effect_heard_part hear hb hpeer hmark hstep]
  generalize hv : (s.setAttempt (messageBytes m) true).missCleared m.sender = v
  have hsnap : v.snap = s.snap := hv ▸ rfl
  have hevents : v.events = s.events := hv ▸ rfl
  have hrest : v.ctl = s.ctl ∧ v.sched = s.sched ∧ v.sub = s.sub ∧ v.obj = s.obj ∧ v.shows = s.shows ∧ v.comp = s.comp :=
    hv ▸ ⟨rfl, rfl, rfl, rfl, rfl, rfl⟩
  have href : v.reference = s.reference := hv ▸ State.reference_missCleared _ _
  have hzero : v.isPartZero m.sender f i n data = true ↔ part0 := by rw [State.isPartZero_iff, href, hsnap]
  have hzero' : v.abandon.isPartZero m.sender f i n data = true ↔ part0 := by
    have href' : v.abandon.reference = v.reference := by rw [State.abandon_eq]; rfl
    rw [State.isPartZero_iff, href', State.abandon_eLost, href, hsnap]
  have hgoes : v.partContinues f i n data = true ↔ goesOn := by rw [State.partContinues_iff, hsnap]
  have hstarts : part0 → ∀ u : State, u.snap.assembly = s.snap.assembly →
      ∀ j : Fin 1184, (u.partZeroTaken m.sender f data).snap.assembly[j] = if j.val < 64 then data.getD j.val 0 else s.snap.assembly[j] := by
    intro hpart u hassembly j
    have hlen : data.length = 64 := hpart.2.2.2.1
    change (writePart 0 data u.snap.assembly)[j] = _
    rw [writePart_getElem, hlen, hassembly]
    simp
  refine ⟨fun hcoll hpart => ?_, fun hcoll hpart => ?_, fun hcoll hsource => ?_, fun hcoll hsource hgo hnext => ?_,
    fun hcoll hsource hgo => ?_, fun hno => ?_⟩
  · rw [State.takePart_waiting (by rw [hsnap]; exact hcoll), State.judgePartZero_eq, if_pos (hzero.2 hpart)]
    exact ⟨⟨congrArg (fun u : Snapshot => { u with
      coll := .collecting, assembly := writePart 0 data v.snap.assembly, collFrame := f, collSource := m.sender, nextExpected := 1 }) hsnap,
      hstarts hpart v (by rw [hsnap])⟩, hevents⟩
  · rw [State.takePart_waiting (by rw [hsnap]; exact hcoll), State.judgePartZero_eq, if_neg fun h => hpart (hzero.1 h)]
    exact ⟨hsnap, hevents⟩
  · rw [State.takePart_other (by rw [hsnap]; exact hcoll) (by rw [hsnap]; exact hsource)]
    exact ⟨hsnap, hevents⟩
  · have hlen : data.length = 64 := hgo.2.2.2.trans (if_pos hnext)
    rw [State.takePart_goesOn (by rw [hsnap]; exact hcoll) (by rw [hsnap]; exact hsource) (hgoes.2 hgo),
      State.collectPart_next (by rw [hsnap]; exact hnext)]
    refine ⟨congrArg (fun u : Snapshot => { u with
      assembly := writePart v.snap.nextExpected data v.snap.assembly, nextExpected := u.nextExpected + 1 }) hsnap, fun j => ?_, hevents⟩
    change (writePart v.snap.nextExpected data v.snap.assembly)[j] = _
    rw [writePart_getElem, hlen, hsnap]
  · have hcollV : v.snap.coll = .collecting := by rw [hsnap]; exact hcoll
    have habandon : v.abandon = { v with snap.coll := .waiting, events.wall.snapshotAbandoned := true } := if_pos hcollV
    have hwaiting : v.abandon.snap = { s.snap with coll := .waiting } := by
      rw [habandon]
      exact congrArg (fun u : Snapshot => { u with coll := .waiting }) hsnap
    have hraised : v.abandon.events = { s.events with wall.snapshotAbandoned := true } := by
      rw [habandon]
      exact congrArg (fun u : Events => { u with wall.snapshotAbandoned := true }) hevents
    rw [State.takePart_abandoned hcollV (by rw [hsnap]; exact hsource) fun h => hgo (hgoes.1 h), State.judgePartZero_eq]
    by_cases hpart : part0
    · rw [if_pos (hzero'.2 hpart)]
      refine ⟨hraised, fun _ => ⟨?_, hstarts hpart v.abandon (by rw [hwaiting])⟩, fun h => absurd hpart h⟩
      exact congrArg (fun u : Snapshot => { u with
        coll := .collecting, assembly := writePart 0 data v.abandon.snap.assembly, collFrame := f, collSource := m.sender
        nextExpected := 1 }) hwaiting
    · rw [if_neg fun h => hpart (hzero'.1 h)]
      exact ⟨hraised, fun h => absurd h hpart, fun _ => hwaiting⟩
  · have hleaves := State.takePart_leaves (s := v) (sender := m.sender) (f := f) (i := i) (n := n) (data := data) (by
      rw [hgoes, hsnap]
      exact hno)
    obtain ⟨hctl, hsched, hsub, hobj, hshows, hcomp⟩ := hleaves
    obtain ⟨hctlV, hschedV, hsubV, hobjV, hshowsV, hcompV⟩ := hrest
    exact ⟨hctl.trans hctlV, hsched.trans hschedV, hsub.trans hsubV, hobj.trans hobjV, hshows.trans hshowsV, hcomp.trans hcompV⟩

end Sys2Proof.Proofs

/-! SUPPORT. The show work of an install: the walk over the deferred records against the walk over the frames (R92, R96, R125). -/

namespace Sys2Proof.Machine

/-! ### What a judgement and a step read -/

/-- The show state and its countdown agree; the words may differ. -/
def ShowControl.Like (k k' : ShowControl) : Prop := k.state = k'.state ∧ k.countdown = k'.countdown

theorem pacingStep_like {k k' : ShowControl} (h : k.Like k') : (pacingStep k).Like (pacingStep k') := by
  obtain ⟨hstate, hcount⟩ := h
  unfold pacingStep
  rw [← hstate, ← hcount]
  split
  · split
    · exact ⟨rfl, rfl⟩
    · exact ⟨rfl, rfl⟩
  all_goals exact ⟨hstate, hcount⟩

theorem judgeShow_like {c a : Byte} {k k' : ShowControl} (h : k.Like k') :
    (judgeShow c a k).1.Like (judgeShow c a k').1 ∧ (judgeShow c a k).2 = (judgeShow c a k').2 := by
  unfold judgeShow
  rw [← h.1]
  split
  · split
    · exact ⟨h, rfl⟩
    · exact ⟨⟨rfl, rfl⟩, rfl⟩
  · exact ⟨h, rfl⟩

theorem silentSteps_like {n : Nat} {k k' : ShowControl} (h : k.Like k') : (silentSteps n k).Like (silentSteps n k') := by
  induction n generalizing k k' with
  | zero => exact h
  | succ n ih => exact ih (pacingStep_like h)

theorem silentSteps_succ (n : Nat) (k : ShowControl) : (silentSteps (n + 1) k).Like (pacingStep (silentSteps n k)) := by
  induction n generalizing k with
  | zero => exact ⟨rfl, rfl⟩
  | succ n ih => exact ih _

/-- Pacing steps leave the show state, and outside PACED the countdown (R118). -/
theorem silentSteps_state (n : Nat) (k : ShowControl) : (silentSteps n k).state = k.state := by
  induction n generalizing k with
  | zero => rfl
  | succ n ih =>
    refine (ih _).trans ?_
    change (pacingStep k).state = k.state
    unfold pacingStep
    split
    · split <;> rfl
    all_goals rfl

theorem silentSteps_countdown {k : ShowControl} (n : Nat) (h : ∀ m, k.state ≠ .paced m) : (silentSteps n k).countdown = k.countdown := by
  induction n generalizing k with
  | zero => rfl
  | succ n ih =>
    have hstep : pacingStep k = k := by
      unfold pacingStep
      split
      · next m hm => exact absurd hm (h m)
      all_goals rfl
    have hsame : ({ pacingStep k with transition := k.transition } : ShowControl) = k := by rw [hstep]
    rw [silentSteps, hsame]
    exact ih h

/-- In PACED the countdown goes round from the factor down to 1 (R118). -/
theorem silentSteps_paced {k : ShowControl} {m : Nat} (n : Nat) (h : k.state = .paced m) (hlow : 1 ≤ k.countdown) (hhigh : k.countdown ≤ m) :
    1 ≤ (silentSteps n k).countdown ∧ (silentSteps n k).countdown ≤ m ∧ ((silentSteps n k).countdown + n) % m = k.countdown % m := by
  induction n generalizing k with
  | zero => exact ⟨hlow, hhigh, rfl⟩
  | succ n ih =>
    by_cases hone : k.countdown - 1 = 0
    · have hstep : pacingStep k = { k with countdown := m, transition := .advance } := by simp only [pacingStep, h, hone, if_true]
      have hk : k.countdown = 1 := by omega
      obtain ⟨hl, hh, hmod⟩ := ih (k := { pacingStep k with transition := k.transition }) (by rw [hstep]; exact h)
        (by rw [hstep]; exact hlow.trans hhigh) (by rw [hstep])
      refine ⟨hl, hh, ?_⟩
      rw [hstep] at hmod
      have hzero : ((silentSteps (n + 1) k).countdown + n) % m = 0 := by
        rw [silentSteps, hstep]
        exact hmod.trans (Nat.mod_self m)
      rw [← Nat.add_assoc, Nat.add_mod, hzero, hk, Nat.zero_add, Nat.mod_mod]
    · have hstep : pacingStep k = { k with countdown := k.countdown - 1 } := by simp only [pacingStep, h, hone, if_false]
      obtain ⟨hl, hh, hmod⟩ := ih (k := { pacingStep k with transition := k.transition }) (by rw [hstep]; exact h)
        (by rw [hstep]; change 1 ≤ k.countdown - 1; omega) (by rw [hstep]; change k.countdown - 1 ≤ m; omega)
      refine ⟨hl, hh, ?_⟩
      have hprev : ((silentSteps (n + 1) k).countdown + n) % m = (k.countdown - 1) % m := by
        rw [hstep] at hmod
        rw [silentSteps, hstep]
        exact hmod
      rw [← Nat.add_assoc, Nat.add_mod, hprev, ← Nat.add_mod]
      congr 1
      omega

/-! ### The walk over the frames -/

theorem kind_eq_showRec_iff (c : Change) : c.kind = .showRec ↔ ∃ command argument, c = .showRec command argument := by
  cases c <;> simp [Change.kind]

theorem firstShow_eq_none {l : List HeldRecord} (h : ∀ r ∈ l, r.change.kind ≠ .showRec) : firstShow l = none := by
  have hnone : (l.filterMap fun r =>
      match r.change with
      | .showRec c a => some (c, a)
      | _ => none) = [] := by
    refine List.filterMap_eq_nil_iff.2 fun r hr => ?_
    split
    · next c a hc => exact absurd ((kind_eq_showRec_iff _).2 ⟨c, a, hc⟩) (h r hr)
    · rfl
  exact congrArg List.head? hnone

/-- The first SHOW record of a list, behind records of other kinds. -/
theorem firstShow_append_cons {before after : List HeldRecord} {r : HeldRecord} {c a : Byte} (h : ∀ x ∈ before, x.change.kind ≠ .showRec)
    (hr : r.change = .showRec c a) : firstShow (before ++ r :: after) = some (c, a) := by
  induction before with
  | nil => simp [firstShow, hr]
  | cons x before ih =>
    have hrest := ih fun y hy => h y (List.mem_cons_of_mem _ hy)
    have hx := h x (List.mem_cons_self ..)
    unfold firstShow at hrest ⊢
    rw [List.cons_append, List.filterMap_cons_none]
    · exact hrest
    · split
      · next c' a' hc => exact absurd ((kind_eq_showRec_iff _).2 ⟨c', a', hc⟩) hx
      · rfl

/-- The frames of a record after the stream frame (R125). -/
def HeldRecord.offset (start : Frame) (r : HeldRecord) : Nat := (r.eff - start).toNat

theorem eff_eq_add_iff {start : Frame} {r : HeldRecord} {i : Nat} (hi : i < 65536) : r.eff = start + BitVec.ofNat 16 i ↔ r.offset start = i := by
  have hcancel : r.eff = start + BitVec.ofNat 16 i ↔ r.eff - start = BitVec.ofNat 16 i := by
    rw [sub_eq_iff_eq_add, add_comm]
  rw [hcancel, ← BitVec.toNat_inj, BitVec.toNat_ofNat, Nat.mod_eq_of_lt hi, HeldRecord.offset]

theorem showWalk_succ (deferred : List HeldRecord) (start : Frame) (k : ShowControl) (n : Nat) :
    showWalk deferred start k (n + 1) =
      showStep (deferred.filter fun r => r.eff == start + BitVec.ofNat 16 (n + 1)) (showWalk deferred start k n) := rfl

theorem showStep_of_none {due : List HeldRecord} (k : ShowControl) (h : firstShow due = none) : showStep due k = pacingStep k := by
  rw [showStep, h]

theorem showStep_of_show {due : List HeldRecord} {c a : Byte} (k : ShowControl) (h : firstShow due = some (c, a)) :
    showStep due k = if (judgeShow c a k).2 = .applied then (judgeShow c a k).1 else pacingStep (judgeShow c a k).1 := by
  rw [showStep, h]

/-- Over frames at which no SHOW record is due the walk takes pacing steps (R118, R125). -/
theorem showWalk_skip {deferred : List HeldRecord} {start : Frame} {k k' : ShowControl} {a d : Nat} (hd : a + d < 65536)
    (h : ∀ r ∈ deferred, r.change.kind = .showRec → r.offset start ≤ a ∨ a + d < r.offset start)
    (hlike : k'.Like (showWalk deferred start k a)) : (silentSteps d k').Like (showWalk deferred start k (a + d)) := by
  induction d with
  | zero => exact hlike
  | succ d ih =>
    have hprev := ih (by omega) fun r hr hkind => by
      rcases h r hr hkind with h' | h'
      · exact .inl h'
      · exact .inr (by omega)
    have hnone : firstShow (deferred.filter fun r => r.eff == start + BitVec.ofNat 16 (a + d + 1)) = none := by
      refine firstShow_eq_none fun r hr hkind => ?_
      obtain ⟨hmem, heff⟩ := List.mem_filter.1 hr
      have hoffset := (eff_eq_add_iff (by omega)).1 (beq_iff_eq.1 heff)
      rcases h r hmem hkind with h' | h' <;> omega
    have hstep : showWalk deferred start k (a + (d + 1)) = pacingStep (showWalk deferred start k (a + d)) :=
      (showWalk_succ ..).trans (showStep_of_none _ hnone)
    rw [hstep]
    have hsucc := silentSteps_succ d k'
    have hpaced := pacingStep_like hprev
    exact ⟨hsucc.1.trans hpaced.1, hsucc.2.trans hpaced.2⟩

end Sys2Proof.Machine

/-! SUPPORT. The deferred apply of an install, record by record (R92, R96, R125). -/

namespace Sys2Proof.Machine

/-! ### One record -/

theorem dispatchAtInstall_other {g : Geometry} {own : Position} {run : ApplyRun} {r : HeldRecord} (h : r.change.kind ≠ .showRec) :
    dispatchAtInstall g own run r = run.store g own r := by
  unfold dispatchAtInstall
  split
  · next c a hc => exact absurd ((kind_eq_showRec_iff _).2 ⟨c, a, hc⟩) h
  · rfl

theorem dispatchAtInstall_conflict {g : Geometry} {own : Position} {run : ApplyRun} {r : HeldRecord} {c a : Byte}
    (hr : r.change = .showRec c a) (h : run.showFrame = some r.eff) :
    dispatchAtInstall g own run r = run.settle own r .rejectedConflict := by
  simp only [dispatchAtInstall, hr, h, if_true]

theorem dispatchAtInstall_first {g : Geometry} {own : Position} {run : ApplyRun} {r : HeldRecord} {c a : Byte}
    (hr : r.change = .showRec c a) (h : run.showFrame ≠ some r.eff) :
    dispatchAtInstall g own run r =
      ({ run with
        shows := (judgeInstalled c a r.eff run.shows).1
        showFrame := some r.eff
        showApplied := (judgeInstalled c a r.eff run.shows).2 == ReceiptOutcome.applied }).settle own r
          (judgeInstalled c a r.eff run.shows).2 := by
  simp only [dispatchAtInstall, hr, h, if_false]

theorem ApplyRun.settle_receipts (own : Position) (r : HeldRecord) (o : ReceiptOutcome) (run : ApplyRun) :
    (run.settle own r o).receipts = run.receipts ++ if r.origin = own then [receiptOf r o] else [] := by
  unfold ApplyRun.settle
  split <;> simp

theorem installOutcome_other {g : Geometry} {deferred before : List HeldRecord} {start : Frame} {k : ShowControl} {r : HeldRecord}
    (h : r.change.kind ≠ .showRec) :
    installOutcome g deferred start k before r = if changeValid g r.change = true then .applied else .rejectedField := by
  unfold installOutcome
  split
  · next c a hc => exact absurd ((kind_eq_showRec_iff _).2 ⟨c, a, hc⟩) h
  · rfl

theorem installOutcome_show {g : Geometry} {deferred before : List HeldRecord} {start : Frame} {k : ShowControl} {r : HeldRecord} {c a : Byte}
    (hr : r.change = .showRec c a) :
    installOutcome g deferred start k before r =
      if ∃ x ∈ before, x.eff = r.eff ∧ x.change.kind = .showRec then .rejectedConflict
      else (judgeShow c a (showWalk deferred start k (r.offset start - 1))).2 := by
  have hiff : (before.any fun x => x.eff == r.eff && x.change.kind == .showRec) = true ↔
      ∃ x ∈ before, x.eff = r.eff ∧ x.change.kind = .showRec := by
    have hkind (x : RecordKind) : (x == .showRec) = true ↔ x = .showRec := by cases x <;> decide
    simp [List.any_eq_true, hkind]
  simp only [installOutcome, hr, hiff]
  rfl

/-! ### The objects of an install (R101) -/

/-- The outcome of a record of another kind than SHOW is that of the object store (R101). -/
theorem applyObject_eq (g : Geometry) (c : Change) (o : Objects) :
    applyObject g c o = (if changeValid g c = true then writeObject c o else o, if changeValid g c = true then .applied else .rejectedField) := by
  unfold applyObject
  split <;> rfl

theorem dispatchAtInstall_obj (g : Geometry) (own : Position) (run : ApplyRun) (r : HeldRecord) :
    (dispatchAtInstall g own run r).obj = if changeValid g r.change = true then writeObject r.change run.obj else run.obj := by
  by_cases hkind : r.change.kind = .showRec
  · obtain ⟨c, a, hr⟩ := (kind_eq_showRec_iff _).1 hkind
    have hsame : (if changeValid g r.change = true then writeObject r.change run.obj else run.obj) = run.obj := by
      rw [hr]
      split <;> rfl
    rw [hsame]
    by_cases hframe : run.showFrame = some r.eff
    · simp [dispatchAtInstall_conflict hr hframe]
    · simp [dispatchAtInstall_first hr hframe]
  · rw [dispatchAtInstall_other hkind]
    simp [ApplyRun.store, applyObject_eq]

theorem foldl_dispatchAtInstall_obj (g : Geometry) (own : Position) (l : List HeldRecord) (run : ApplyRun) :
    (l.foldl (dispatchAtInstall g own) run).obj =
      l.foldl (fun o r => if changeValid g r.change = true then writeObject r.change o else o) run.obj := by
  induction l generalizing run with
  | nil => rfl
  | cons r l ih => rw [List.foldl_cons, List.foldl_cons, ih, dispatchAtInstall_obj]

theorem judgeShow_words (c a : Byte) (k : ShowControl) :
    (judgeShow c a k).1.lastWord = k.lastWord ∧ (judgeShow c a k).1.deferred = k.deferred := by
  unfold judgeShow
  split
  · split <;> exact ⟨rfl, rfl⟩
  · exact ⟨rfl, rfl⟩

theorem silentSteps_lastWord (n : Nat) (k : ShowControl) : (silentSteps n k).lastWord = k.lastWord := by
  induction n generalizing k with
  | zero => rfl
  | succ n ih =>
    refine (ih _).trans ?_
    change (pacingStep k).lastWord = k.lastWord
    unfold pacingStep
    split
    · split <;> rfl
    all_goals rfl

/-- An install sends no word (R125). -/
theorem dispatchAtInstall_lastWord (g : Geometry) (own : Position) (run : ApplyRun) (r : HeldRecord) :
    (dispatchAtInstall g own run r).shows.lastWord = run.shows.lastWord := by
  by_cases hkind : r.change.kind = .showRec
  · obtain ⟨c, a, hr⟩ := (kind_eq_showRec_iff _).1 hkind
    by_cases hframe : run.showFrame = some r.eff
    · simp [dispatchAtInstall_conflict hr hframe]
    · have hjudged := (judgeShow_words c a (silentSteps (framesBefore run.shows r.eff) run.shows)).1
      rw [silentSteps_lastWord] at hjudged
      have hword : (judgeInstalled c a r.eff run.shows).1.lastWord = run.shows.lastWord := by
        unfold judgeInstalled
        dsimp only
        split
        · exact hjudged
        · exact (silentSteps_lastWord 1 _).trans hjudged
      simp [dispatchAtInstall_first hr hframe, hword]
  · rw [dispatchAtInstall_other hkind]
    simp [ApplyRun.store]

theorem foldl_dispatchAtInstall_lastWord (g : Geometry) (own : Position) (l : List HeldRecord) (run : ApplyRun) :
    (l.foldl (dispatchAtInstall g own) run).shows.lastWord = run.shows.lastWord := by
  induction l generalizing run with
  | nil => rfl
  | cons r l ih => rw [List.foldl_cons, ih, dispatchAtInstall_lastWord]

/-! ### The deferred records in list order -/

/-- The receipts of the own records among the first ones, in list order, each with its outcome (R91, R96). -/
def outcomeReceipts (own : Position) (outcome : List HeldRecord → HeldRecord → ReceiptOutcome) (pre : List HeldRecord) : List Receipt :=
  ((pre.mapIdx fun i r => (r, outcome (pre.take i) r)).filter fun x => x.1.origin == own).map fun x =>
    ⟨x.1.seq, x.1.change.kind, x.2, some x.1.eff⟩

theorem outcomeReceipts_concat (own : Position) (outcome : List HeldRecord → HeldRecord → ReceiptOutcome) (pre : List HeldRecord)
    (r : HeldRecord) :
    outcomeReceipts own outcome (pre ++ [r]) =
      outcomeReceipts own outcome pre ++ if r.origin = own then [receiptOf r (outcome pre r)] else [] := by
  have hpairs : ((pre ++ [r]).mapIdx fun i x => (x, outcome ((pre ++ [r]).take i) x)) =
      (pre.mapIdx fun i x => (x, outcome (pre.take i) x)) ++ [(r, outcome pre r)] := by
    rw [List.mapIdx_concat, List.take_left]
    congr 1
    refine List.mapIdx_eq_mapIdx_iff.2 fun i hi => ?_
    rw [List.take_append_of_le_length hi.le]
  rw [outcomeReceipts, hpairs, List.filter_append, List.map_append]
  congr 1
  by_cases hown : r.origin = own
  · simp [hown, receiptOf]
  · simp [hown]

/-- How far the show work has come when the records `pre` of the deferred ones have been taken: frame `o` after the stream frame is the last
that had a SHOW record, and the show state is what the frames up to it have left (R125). -/
structure Walked (deferred : List HeldRecord) (start : Frame) (k : ShowControl) (pre : List HeldRecord) (o : Nat) (run : ApplyRun) : Prop where
  position : run.shows.installPos = some (start + BitVec.ofNat 16 o)
  like : run.shows.Like (showWalk deferred start k o)
  behind : ∀ x ∈ pre, x.change.kind = .showRec → x.offset start ≤ o
  frame : run.showFrame = none ∧ o = 0 ∨
    run.showFrame = some (start + BitVec.ofNat 16 o) ∧ ∃ x ∈ pre, x.change.kind = .showRec ∧ x.offset start = o

section
variable {deferred : List HeldRecord} {start : Frame} {k : ShowControl} {g : Geometry} {own : Position}

/-- A record of another kind leaves the show work where it is. -/
theorem Walked.other {pre : List HeldRecord} {o : Nat} {run : ApplyRun} {r : HeldRecord} (h : Walked deferred start k pre o run)
    (hkind : r.change.kind ≠ .showRec) : Walked deferred start k (pre ++ [r]) o (dispatchAtInstall g own run r) := by
  have hshows : (dispatchAtInstall g own run r).shows = run.shows ∧ (dispatchAtInstall g own run r).showFrame = run.showFrame := by
    rw [dispatchAtInstall_other hkind]
    constructor
    · simp [ApplyRun.store]
    · unfold ApplyRun.store ApplyRun.settle
      split <;> rfl
  refine ⟨by rw [hshows.1]; exact h.position, by rw [hshows.1]; exact h.like, fun x hx hshow => ?_, ?_⟩
  · rcases List.mem_append.1 hx with hx | hx
    · exact h.behind x hx hshow
    · exact absurd (List.mem_singleton.1 hx ▸ hshow) hkind
  · rw [hshows.2]
    exact h.frame.imp_right fun ⟨hf, x, hx, hrest⟩ => ⟨hf, x, List.mem_append_left _ hx, hrest⟩

theorem HeldRecord.offset_lt (r : HeldRecord) (start : Frame) : r.offset start < 65536 := (r.eff - start).isLt

/-- The distance of a frame from one that is `o` frames after `start`. -/
theorem sub_add_toNat {start f : Frame} {o : Nat} (h : o ≤ (f - start).toNat) :
    (f - (start + BitVec.ofNat 16 o)).toNat = (f - start).toNat - o := by
  have hlt := (f - start).isLt
  have hcancel : f - (start + BitVec.ofNat 16 o) = (f - start) - BitVec.ofNat 16 o := sub_add_eq_sub_sub _ _ _
  have ho : (BitVec.ofNat 16 o).toNat = o := by rw [BitVec.toNat_ofNat, Nat.mod_eq_of_lt (by omega)]
  rw [hcancel, BitVec.toNat_sub, ho]
  omega

theorem Walked.lt {pre : List HeldRecord} {o : Nat} {run : ApplyRun} (h : Walked deferred start k pre o run) : o < 65536 := by
  rcases h.frame with ⟨-, rfl⟩ | ⟨-, x, -, -, rfl⟩
  · decide
  · exact x.offset_lt start

/-- A second SHOW record of a frame is a conflict and moves nothing (R92). -/
theorem Walked.conflict {pre : List HeldRecord} {o : Nat} {run : ApplyRun} {r : HeldRecord} {c a : Byte} (h : Walked deferred start k pre o run)
    (hr : r.change = .showRec c a) (hframe : run.showFrame = some r.eff) :
    Walked deferred start k (pre ++ [r]) o (dispatchAtInstall g own run r) ∧
      (dispatchAtInstall g own run r).receipts =
        run.receipts ++ if r.origin = own then [receiptOf r (installOutcome g deferred start k pre r)] else [] := by
  rcases h.frame with ⟨hnone, -⟩ | ⟨hsome, x, hx, hkind, hxo⟩
  · exact absurd (hnone.symm.trans hframe) nofun
  · have heff : r.eff = start + BitVec.ofNat 16 o := Option.some.inj (hframe.symm.trans hsome)
    have hro : r.offset start = o := (eff_eq_add_iff h.lt).1 heff
    have hxeff : x.eff = r.eff := ((eff_eq_add_iff h.lt).2 hxo).trans heff.symm
    have houtcome : installOutcome g deferred start k pre r = .rejectedConflict :=
      (installOutcome_show hr).trans (if_pos ⟨x, hx, hxeff, hkind⟩)
    rw [dispatchAtInstall_conflict hr hframe, ApplyRun.settle_receipts, houtcome]
    refine ⟨⟨by simpa using h.position, by simpa using h.like, fun y hy hshow => ?_, .inr ⟨by simpa using hsome, x, ?_, hkind, hxo⟩⟩, rfl⟩
    · rcases List.mem_append.1 hy with hy | hy
      · exact h.behind y hy hshow
      · rw [List.mem_singleton.1 hy, hro]
    · exact List.mem_append_left _ hx

/-- The first SHOW record of a frame is judged on what the frames before have left (R92, R125). -/
theorem Walked.first {pre rest : List HeldRecord} {o : Nat} {run : ApplyRun} {r : HeldRecord} {c a : Byte}
    (h : Walked deferred start k pre o run) (hr : r.change = .showRec c a) (hframe : run.showFrame ≠ some r.eff)
    (hlist : deferred = pre ++ r :: rest) (hpos : 1 ≤ r.offset start)
    (hbefore : ∀ x ∈ pre, x.change.kind = .showRec → x.offset start ≤ r.offset start)
    (hafter : ∀ x ∈ rest, x.change.kind = .showRec → r.offset start ≤ x.offset start) :
    Walked deferred start k (pre ++ [r]) (r.offset start) (dispatchAtInstall g own run r) ∧
      (dispatchAtInstall g own run r).receipts =
        run.receipts ++ if r.origin = own then [receiptOf r (installOutcome g deferred start k pre r)] else [] := by
  have hro := r.offset_lt start
  have heff : r.eff = start + BitVec.ofNat 16 (r.offset start) := (eff_eq_add_iff hro).2 rfl
  have hkind : r.change.kind = .showRec := (kind_eq_showRec_iff _).2 ⟨c, a, hr⟩
  have hlt : o < r.offset start := by
    rcases h.frame with ⟨-, rfl⟩ | ⟨hsome, x, hx, hxkind, hxo⟩
    · exact hpos
    · refine lt_of_le_of_ne (hxo ▸ hbefore x hx hxkind) fun heq => hframe ?_
      rw [hsome, heq, ← heff]
  have hfresh : ¬∃ x ∈ pre, x.eff = r.eff ∧ x.change.kind = .showRec := by
    rintro ⟨x, hx, hxe, hxkind⟩
    have hle := h.behind x hx hxkind
    have hsame : x.offset start = r.offset start := by rw [HeldRecord.offset, hxe, HeldRecord.offset]
    omega
  have hframes : framesBefore run.shows r.eff = r.offset start - o - 1 := by
    simp only [framesBefore, h.position, sub_add_toNat (f := r.eff) (start := start) hlt.le]
    rfl
  have hstepped : (silentSteps (framesBefore run.shows r.eff) run.shows).Like (showWalk deferred start k (r.offset start - 1)) := by
    have hsum : o + (r.offset start - o - 1) = r.offset start - 1 := by omega
    have hskip := showWalk_skip (deferred := deferred) (start := start) (k := k) (k' := run.shows) (a := o) (d := r.offset start - o - 1)
      (by omega) (fun x hx hxkind => ?_) h.like
    · rw [hframes]
      rwa [hsum] at hskip
    · rw [hlist] at hx
      rcases List.mem_append.1 hx with hx | hx
      · exact .inl (h.behind x hx hxkind)
      · rcases List.mem_cons.1 hx with rfl | hx
        · exact .inr (by omega)
        · have := hafter x hx hxkind
          exact .inr (by omega)
  obtain ⟨hjudged, hsame⟩ := judgeShow_like (c := c) (a := a) hstepped
  have houtcome : installOutcome g deferred start k pre r = (judgeInstalled c a r.eff run.shows).2 :=
    ((installOutcome_show hr).trans (if_neg hfresh)).trans hsame.symm
  have hdue : firstShow (deferred.filter fun x => x.eff == start + BitVec.ofNat 16 (r.offset start - 1 + 1)) = some (c, a) := by
    have hself : (r.eff == start + BitVec.ofNat 16 (r.offset start)) = true := beq_iff_eq.2 heff
    rw [Nat.sub_add_cancel hpos, hlist, List.filter_append, 
      List.filter_cons_of_pos (p := fun x : HeldRecord => x.eff == start + BitVec.ofNat 16 (r.offset start)) hself]
    refine firstShow_append_cons (fun x hx hxkind => hfresh ?_) hr
    obtain ⟨hmem, hxe⟩ := List.mem_filter.1 hx
    exact ⟨x, hmem, (beq_iff_eq.1 hxe).trans heff.symm, hxkind⟩
  have hafterStep : (judgeInstalled c a r.eff run.shows).1.Like (showWalk deferred start k (r.offset start)) := by
    have hwalk := (showWalk_succ deferred start k (r.offset start - 1)).trans (showStep_of_show _ hdue)
    rw [Nat.sub_add_cancel hpos] at hwalk
    rw [hwalk, ← hsame]
    unfold judgeInstalled
    dsimp only
    split
    · exact hjudged
    · exact pacingStep_like hjudged
  rw [dispatchAtInstall_first hr hframe, ApplyRun.settle_receipts, houtcome]
  refine ⟨⟨?_, by simpa using hafterStep, fun x hx hxkind => ?_, .inr ⟨?_, r, ?_, hkind, rfl⟩⟩, rfl⟩
  · have hposition : (judgeInstalled c a r.eff run.shows).1.installPos = some r.eff := rfl
    simp [hposition, ← heff]
  · rcases List.mem_append.1 hx with hx | hx
    · exact hbefore x hx hxkind
    · rw [List.mem_singleton.1 hx]
  · simp [← heff]
  · exact List.mem_append_right _ (List.mem_singleton_self r)

/-- The walk over the deferred records, taken to its end. -/
theorem walked_deferred {o : Objects} {k' : ShowControl} (hlike : k'.Like k) (hstart : k'.installPos = some start)
    (hpos : ∀ r ∈ deferred, 1 ≤ r.offset start)
    (hsorted : (deferred.filter fun r => r.change.kind == .showRec).Pairwise fun x y => x.offset start ≤ y.offset start)
    (pre : List HeldRecord) (rest : List HeldRecord) (hlist : deferred = pre ++ rest) :
    ∃ last, Walked deferred start k pre last (pre.foldl (dispatchAtInstall g own) (ApplyRun.begin o k')) ∧
      (pre.foldl (dispatchAtInstall g own) (ApplyRun.begin o k')).receipts = outcomeReceipts own (installOutcome g deferred start k) pre := by
  induction pre using List.reverseRecOn generalizing rest with
  | nil =>
    refine ⟨0, ⟨?_, hlike, nofun, .inl ⟨rfl, rfl⟩⟩, rfl⟩
    rw [BitVec.add_zero]
    exact hstart
  | append_singleton pre r ih =>
    have hsplit : deferred = pre ++ r :: rest := by rw [hlist, List.append_assoc, List.singleton_append]
    obtain ⟨last, hwalked, hreceipts⟩ := ih (r :: rest) hsplit
    rw [List.foldl_append, List.foldl_cons, List.foldl_nil, outcomeReceipts_concat, ← hreceipts]
    have hrpos := hpos r (by rw [hsplit]; exact List.mem_append_right _ (List.mem_cons_self ..))
    by_cases hkind : r.change.kind = .showRec
    · obtain ⟨c, a, hr⟩ := (kind_eq_showRec_iff _).1 hkind
      by_cases hframe : (pre.foldl (dispatchAtInstall g own) (ApplyRun.begin o k')).showFrame = some r.eff
      · exact ⟨last, hwalked.conflict hr hframe⟩
      · have hshow (x : HeldRecord) (hx : x.change.kind = .showRec) : (x.change.kind == .showRec) = true := by rw [hx]; rfl
        rw [hsplit, List.filter_append, 
          List.filter_cons_of_pos (p := fun x : HeldRecord => x.change.kind == .showRec) (hshow r hkind), List.pairwise_append, List.pairwise_cons] at hsorted
        obtain ⟨-, ⟨hafter, -⟩, hcross⟩ := hsorted
        refine ⟨r.offset start, hwalked.first hr hframe hsplit hrpos (fun x hx hxkind => ?_) fun x hx hxkind => ?_⟩
        · exact hcross x (List.mem_filter.2 ⟨hx, hshow x hxkind⟩) r (List.mem_cons_self ..)
        · exact hafter x (List.mem_filter.2 ⟨hx, hshow x hxkind⟩)
    · refine ⟨last, hwalked.other hkind, ?_⟩
      rw [dispatchAtInstall_other hkind, installOutcome_other hkind, ApplyRun.store, applyObject_eq, ApplyRun.settle_receipts]

/-- The end of an install: the show state is what every frame up to the current one has left (R125, R126). -/
theorem endInstall_like {o : Objects} {k' : ShowControl} {now : Frame} (hlike : k'.Like k) (hstart : k'.installPos = some start)
    (hpos : ∀ r ∈ deferred, 1 ≤ r.offset start) (hle : ∀ r ∈ deferred, r.offset start ≤ (now - start).toNat)
    (hsorted : (deferred.filter fun r => r.change.kind == .showRec).Pairwise fun x y => x.offset start ≤ y.offset start) :
    (endInstall now (deferred.foldl (dispatchAtInstall g own) (ApplyRun.begin o k')).shows).Like
        (showWalk deferred start k (now - start).toNat) ∧
      (deferred.foldl (dispatchAtInstall g own) (ApplyRun.begin o k')).receipts =
        outcomeReceipts own (installOutcome g deferred start k) deferred := by
  obtain ⟨last, hwalked, hreceipts⟩ := walked_deferred (g := g) (own := own) (o := o) hlike hstart hpos hsorted deferred [] (by simp)
  refine ⟨?_, hreceipts⟩
  generalize deferred.foldl (dispatchAtInstall g own) (ApplyRun.begin o k') = run at hwalked
  have hnow := (now - start).isLt
  have hlast : last ≤ (now - start).toNat := by
    rcases hwalked.frame with ⟨-, rfl⟩ | ⟨-, x, hx, -, rfl⟩
    · exact Nat.zero_le _
    · exact hle x hx
  have hframes : framesUpTo run.shows now = (now - start).toNat - last := by
    simp only [framesUpTo, hwalked.position, sub_add_toNat hlast]
  have hskip := showWalk_skip (d := (now - start).toNat - last) (by omega) (fun x hx hxkind => .inl (hwalked.behind x hx hxkind)) hwalked.like
  rw [Nat.add_sub_cancel' hlast, ← hframes] at hskip
  exact hskip

end

end Sys2Proof.Machine

/-! SUPPORT. The checks of an install, what an image holds, and the states an install leads to (R142 to R146, R192). -/

namespace Sys2Proof.Machine

theorem byte_eq_ofNat_iff {n : Nat} (b : Byte) (h : n < 256) : b = BitVec.ofNat 8 n ↔ b.toNat = n := by
  rw [← BitVec.toNat_inj, BitVec.toNat_ofNat, Nat.mod_eq_of_lt h]

/-! ### The checks (R143, R144) -/

theorem geometryMatches_iff (p : Straps) (c : Configuration) (im : Image) :
    geometryMatches p c im = true ↔
      (imageByte im 0).toNat = p.colPins.val + 1 ∧ (imageByte im 1).toNat = p.rowPins.val + 1 ∧
        (imageByte im 3 ++ imageByte im 2 : Half) = c.tileW ∧ (imageByte im 5 ++ imageByte im 4 : Half) = c.tileH ∧
        (imageByte im 7 ++ imageByte im 6 : Half) = c.period ∧ imageByte im 8 = c.lead ∧ imageByte im 9 = c.silence :=
  decide_eq_true_iff

theorem windowEntryPasses_iff (g : Geometry) (im : Image) (i : Fin 8) :
    windowEntryPasses g im i = true ↔
      imageByte im (32 + 16 * i.val) = 0 ∨
        (imageByte im (32 + 16 * i.val) = 1 ∧ (imageByte im (33 + 16 * i.val)).toNat ≤ 7 ∧ (imageByte im (34 + 16 * i.val)).toNat ≤ 7 ∧
          windowValid g (imageWindow im i) = true) := by
  rw [windowEntryPasses, Bool.or_eq_true, Bool.and_eq_true, decide_eq_true_iff, decide_eq_true_iff, and_assoc, and_assoc]
  rfl

theorem showPasses_iff (im : Image) :
    showPasses im = true ↔
      (imageByte im 10 = 0 ∧ (imageByte im 11).toNat ≤ 1 ∧ imageByte im 12 = 0) ∨
      (imageByte im 10 = 1 ∧ imageByte im 11 = 0 ∧ imageByte im 12 = 0) ∨
      (imageByte im 10 = 2 ∧ imageByte im 11 = 0 ∧ imageByte im 12 = 0) ∨
      (imageByte im 10 = 3 ∧ 2 ≤ (imageByte im 11).toNat ∧ (imageByte im 11).toNat ≤ 8 ∧ 1 ≤ (imageByte im 12).toNat ∧
        (imageByte im 12).toNat ≤ (imageByte im 11).toNat) := by
  have h0 (b : Byte) : b = 0 ↔ b.toNat = 0 := byte_eq_ofNat_iff b (by decide)
  have h1 (b : Byte) : b = 1 ↔ b.toNat = 1 := byte_eq_ofNat_iff b (by decide)
  have h2 (b : Byte) : b = 2 ↔ b.toNat = 2 := byte_eq_ofNat_iff b (by decide)
  have h3 (b : Byte) : b = 3 ↔ b.toNat = 3 := byte_eq_ofNat_iff b (by decide)
  rw [h0, h0, h1, h0, h2, h3]
  unfold showPasses
  dsimp only
  split
  · next h => simp [h]
  · next h => simp [h]
  · next h => simp [h]
  · next h => simp [h]
  · next hn0 hn1 hn2 hn3 => simp_all

theorem contentPasses_iff (g : Geometry) (im : Image) :
    contentPasses g im = true ↔
      (∀ i : Fin 8, windowEntryPasses g im i = true) ∧ (imageByte im 14).toNat ≤ 1 ∧
        cursorCoordValid g.canvasW (imageHalf im 15) = true ∧ cursorCoordValid g.canvasH (imageHalf im 17) = true ∧
        showPasses im = true := by
  simp [contentPasses, List.all_eq_true, and_assoc]

/-! ### The show state of an image (Table 13-4) -/

theorem imageShow_stopped {im : Image} (h : imageByte im 10 = 0) : imageShow im = .stopped (if imageByte im 11 = 0 then .keep else .blank) := by
  simp only [imageShow, h]
  rfl

theorem imageShow_running {im : Image} (h : imageByte im 10 = 1) : imageShow im = .running := by
  simp only [imageShow, h]
  rfl

theorem imageShow_held {im : Image} (h : imageByte im 10 = 2) : imageShow im = .held := by
  simp only [imageShow, h]
  rfl

theorem imageShow_paced {im : Image} (h : imageByte im 10 = 3) : imageShow im = .paced (imageByte im 11).toNat := by
  simp only [imageShow, h]
  rfl

/-- A PACED image that passes has its countdown within the factor (R144). -/
theorem countdown_of_paced {im : Image} {n : Nat} (hpass : showPasses im = true) (h : imageShow im = .paced n) :
    1 ≤ (imageByte im 12).toNat ∧ (imageByte im 12).toNat ≤ n := by
  rcases (showPasses_iff im).1 hpass with ⟨hc, -⟩ | ⟨hc, -⟩ | ⟨hc, -⟩ | ⟨hc, -, -, hlow, hhigh⟩
  · exact absurd ((imageShow_stopped hc).symm.trans h) nofun
  · exact absurd ((imageShow_running hc).symm.trans h) nofun
  · exact absurd ((imageShow_held hc).symm.trans h) nofun
  · have hn : (imageByte im 11).toNat = n := ShowState.paced.inj ((imageShow_paced hc).symm.trans h)
    exact ⟨hlow, hn ▸ hhigh⟩

/-! ### The objects of an image (R145, R192) -/

theorem imageObjects_palette (im : Image) (i : Byte) :
    paletteAt (imageObjects im).palette i = ⟨imageByte im (416 + 3 * i.toNat), imageByte im (417 + 3 * i.toNat), imageByte im (418 + 3 * i.toNat)⟩ := by
  have hgreen : 416 + 3 * i.toNat + 1 = 417 + 3 * i.toNat := by omega
  have hblue : 416 + 3 * i.toNat + 2 = 418 + 3 * i.toNat := by omega
  simp only [paletteAt, imageObjects, table_getElem, imageRGB, hgreen, hblue]

theorem imageObjects_image (im : Image) (r : Fin 32) (j : Fin 8) : (imageObjects im).image[r][j] = imageByte im (160 + 8 * r.val + j.val) := by
  simp [imageObjects, imageRow]

theorem imageObjects_windows (im : Image) (i : Fin 8) :
    (imageObjects im).windows[i] = if imageByte im (32 + 16 * i.val) = 1 then some (imageWindow im i) else none :=
  table_getElem _ _ _

theorem imageWindow_eq (im : Image) (i : Fin 8) :
    imageWindow im i =
      ⟨(imageByte im (33 + 16 * i.val)).extractLsb' 0 4, (imageByte im (34 + 16 * i.val)).extractLsb' 0 4, imageHalf im (36 + 16 * i.val),
        imageHalf im (38 + 16 * i.val), imageHalf im (40 + 16 * i.val), imageHalf im (42 + 16 * i.val), imageHalf im (44 + 16 * i.val),
        imageHalf im (46 + 16 * i.val)⟩ := by
  have hsum (n : Nat) : 32 + 16 * i.val + n = 32 + n + 16 * i.val := by omega
  simp only [imageWindow, hsum]

/-! ### The install by its checks (R142) -/

theorem State.install_geometry {s : State} (h : geometryMatches s.straps s.cfg s.snap.assembly = false) :
    s.install = s.enterFault .geometry := by
  rw [State.install, h]
  rfl

theorem State.install_content {s : State} (hg : geometryMatches s.straps s.cfg s.snap.assembly = true)
    (hc : contentPasses s.geometry s.snap.assembly = false) : s.install = s.abandon := by
  rw [State.install, hg, hc]
  rfl

theorem State.install_passes {s : State} (hg : geometryMatches s.straps s.cfg s.snap.assembly = true)
    (hc : contentPasses s.geometry s.snap.assembly = true) : s.install = s.writeImage.deferredApply.changeState .member := by
  rw [State.install, hg, hc]
  rfl

/-- The records that an install applies: after the stream frame and not after the current one (R96). -/
def State.deferredRecords (s : State) : List HeldRecord :=
  s.sched.list.filter fun r => frameAfter r.eff s.snap.collFrame && !frameAfter r.eff s.timer.frame

theorem filter_deferred (s : State) :
    ((s.sched.list.filter fun r => frameAfter r.eff s.snap.collFrame).filter fun r => !frameAfter r.eff s.timer.frame) = s.deferredRecords := by
  rw [List.filter_filter]
  exact List.filter_congr fun r _ => Bool.and_comm _ _

/-- The run of the deferred apply, on the deferred records. -/
def State.imageRun (s : State) : ApplyRun :=
  s.deferredRecords.foldl (dispatchAtInstall s.geometry s.own) (ApplyRun.begin (imageObjects s.snap.assembly) s.writeImage.shows)

theorem State.installRun_writeImage (s : State) : s.writeImage.installRun = s.imageRun := by
  rw [State.imageRun, ← filter_deferred]
  rfl

/-- A deferred record lies between the stream frame and the current frame (R96, R146). -/
theorem offset_of_mem_deferredRecords {s : State} {r : HeldRecord} (h : r ∈ s.deferredRecords) :
    1 ≤ r.offset s.snap.collFrame ∧ r.offset s.snap.collFrame ≤ (s.timer.frame - s.snap.collFrame).toNat := by
  obtain ⟨-, hboth⟩ := List.mem_filter.1 h
  rw [Bool.and_eq_true, Bool.not_eq_true', frameAfter, frameAfter, decide_eq_true_eq, decide_eq_false_iff_not] at hboth
  obtain ⟨⟨hlow, hhigh⟩, hnow⟩ := hboth
  have hr := r.eff.isLt
  have hs := s.snap.collFrame.isLt
  have hf := s.timer.frame.isLt
  rw [BitVec.toNat_sub] at hlow hhigh hnow
  rw [HeldRecord.offset, BitVec.toNat_sub, BitVec.toNat_sub]
  omega

theorem eq_showRec_of_beq {x : RecordKind} (h : (x == .showRec) = true) : x = .showRec := by
  revert h
  cases x <;> decide

/-- The show state and the countdown that an image brings (R145). -/
def State.imageShows (s : State) : ShowControl :=
  { s.shows with state := imageShow s.snap.assembly, countdown := (imageByte s.snap.assembly 12).toNat }

theorem State.install_shows {s : State} (h : s.install = s.writeImage.deferredApply.changeState .member) :
    s.install.shows = endInstall s.timer.frame s.imageRun.shows := by
  rw [h, ← State.installRun_writeImage]
  rfl

theorem State.install_sub {s : State} (h : s.install = s.writeImage.deferredApply.changeState .member) :
    s.install.sub =
      { s.sub with
        receipts := s.sub.receipts ++
          ((s.sched.list.filter fun r => r.origin == s.own && !frameAfter r.eff s.snap.collFrame).map fun r =>
            ⟨r.seq, r.change.kind, .uncertain, some r.eff⟩) ++ s.imageRun.receipts } := by
  have hdropped : uncertainReceipts s.own (s.sched.list.filter fun r => !frameAfter r.eff s.snap.collFrame) =
      (s.sched.list.filter fun r => r.origin == s.own && !frameAfter r.eff s.snap.collFrame).map fun r =>
        ⟨r.seq, r.change.kind, .uncertain, some r.eff⟩ := by
    rw [uncertainReceipts, List.filter_filter]
    rfl
  rw [h, ← State.installRun_writeImage, ← hdropped]
  rfl

end Sys2Proof.Machine

namespace Sys2Proof.Proofs

open Sys2Proof Sys2Proof.Machine

/-- Settles O25: the delivery of part 18, the two checks, what an image holds, and the install by its checks. -/
theorem installByItsChecks : Obligations.InstallByItsChecks := by
  refine ⟨fun m data s hear hb hlen hst hpeer hmark hframe hcoll hsource hnext => ?_, ?_, ?_, fun s hst hcoll => ?_⟩
  · have hstep : s.InStep m := .inr (.inr ⟨.inr hst, hframe⟩)
    refine ⟨{ (s.setAttempt (messageBytes m) true).missCleared m.sender with snap.assembly := writePart 18 data s.snap.assembly }, rfl,
      fun j => ?_, congrArg Host.Outcome.next ?_⟩
    · change (writePart 18 data s.snap.assembly)[j] = _
      have hj : j.val < 64 * 18 + 32 := j.isLt
      rw [writePart_getElem, hlen]
      simp [hj]
    · change effect (.messageReceived (messageBytes m) true) s = _
      rw [effect_heard_part hear hb hpeer hmark hstep]
      have hgoes : ((s.setAttempt (messageBytes m) true).missCleared m.sender).partContinues s.snap.collFrame 18 19 data = true := by
        refine State.partContinues_iff.2 ⟨rfl, rfl, hnext.symm, ?_⟩
        change data.length = if s.snap.nextExpected < 18 then 64 else 32
        rw [hnext, hlen]
        rfl
      have hcollect : ((s.setAttempt (messageBytes m) true).missCleared m.sender).collectPart data = _ :=
        if_neg (by change ¬s.snap.nextExpected < 18; omega)
      rw [State.takePart_goesOn (s := (s.setAttempt (messageBytes m) true).missCleared m.sender) hcoll hsource.symm hgoes, hcollect]
      have hwritten : ((s.setAttempt (messageBytes m) true).missCleared m.sender).snap.nextExpected = 18 := hnext
      rw [hwritten]
      rfl
  · intro p c g im at' half cursorOk
    refine ⟨geometryMatches_iff p c im, ?_⟩
    have hcursor (extent : Nat) (v : Half) : cursorCoordValid extent v = true ↔ cursorOk v extent := cursorCoordValid_iff extent v
    rw [contentPasses_iff, hcursor, hcursor, showPasses_iff]
    exact and_congr_left' (forall_congr' (windowEntryPasses_iff g im))
  · intro im at' half o
    refine ⟨imageObjects_palette im, imageObjects_image im, fun i => ⟨fun h => ?_, fun h => ?_⟩, rfl, rfl, rfl, rfl, imageShow_stopped,
      imageShow_running, imageShow_held, imageShow_paced⟩
    · rw [imageObjects_windows, if_pos h, imageWindow_eq]
      rfl
    · rw [imageObjects_windows, if_neg h]
  · intro im deferred
    refine ⟨fun hg => ?_, fun hg hc => ?_, fun hg hc => ?_⟩
    · rw [State.install_geometry hg]
      exact ⟨rfl, rfl, rfl, rfl, rfl, State.enterFault_sub _ _, rfl⟩
    · rw [State.install_content hg hc]
      exact if_pos hcoll
    · have hinstall := State.install_passes hg hc
      have hshows := State.install_shows hinstall
      have hsub := State.install_sub hinstall
      have hpass : showPasses im = true := ((contentPasses_iff _ _).1 hc).2.2.2.2
      have hwalk (hsorted : (deferred.filter fun r : HeldRecord => r.change.kind == .showRec).Pairwise fun a b : HeldRecord =>
          (a.eff - s.snap.collFrame).toNat ≤ (b.eff - s.snap.collFrame).toNat) :=
        endInstall_like (deferred := s.deferredRecords) (start := s.snap.collFrame)
          (k := s.imageShows) (g := s.geometry) (own := s.own)
          (o := imageObjects im) (k' := s.writeImage.shows) (now := s.timer.frame) ⟨rfl, rfl⟩ rfl
          (fun r hr => (offset_of_mem_deferredRecords hr).1) (fun r hr => (offset_of_mem_deferredRecords hr).2) hsorted
      have hobj : s.install.obj = s.imageRun.obj := by
        rw [hinstall, ← State.installRun_writeImage]
        rfl
      have hshowState : s.install.comp.hidden = hidesWindows s.install.shows.state := by
        rw [hinstall]
        rfl
      refine ⟨by rw [hinstall]; rfl, by rw [hinstall]; rfl, by rw [hinstall]; rfl, by rw [hinstall]; rfl, by rw [hinstall]; rfl, ?_,
        hobj.trans (foldl_dispatchAtInstall_obj ..), by rw [hshows]; rfl, ?_, by rw [hshows]; rfl, ?_, ?_, ?_, ?_, fun hnone => ?_,
        fun hsorted => ?_⟩
      · rw [hinstall]
        change ((s.sched.list.filter fun r => frameAfter r.eff s.snap.collFrame).filter fun r => frameAfter r.eff s.timer.frame) = _
        rw [List.filter_filter]
        exact List.filter_congr fun r _ => Bool.and_comm _ _
      · rw [hshows]
        exact (silentSteps_lastWord _ _).trans (foldl_dispatchAtInstall_lastWord ..)
      · rw [hshowState, Bool.eq_iff_iff, hidesWindows_iff, decide_eq_true_iff]
      · rw [hinstall]
        rfl
      · rw [hinstall]
        rfl
      · rw [hinstall]
        rfl
      · have hshowless : (deferred.filter fun r => r.change.kind == .showRec) = [] := by
          refine List.filter_eq_nil_iff.2 fun r hr hkind => hnone r hr ?_
          exact eq_showRec_of_beq hkind
        have hlike := (hwalk (by rw [hshowless]; exact List.Pairwise.nil)).1
        have hsilent := showWalk_skip (deferred := s.deferredRecords) (start := s.snap.collFrame) (k := s.imageShows)
          (k' := s.imageShows) (a := 0) (d := (s.timer.frame - s.snap.collFrame).toNat) (by rw [Nat.zero_add]; exact (s.timer.frame - s.snap.collFrame).isLt)
          (fun r hr hkind => absurd hkind (hnone r hr)) ⟨rfl, rfl⟩
        rw [Nat.zero_add] at hsilent
        have hstate := hlike.1.trans hsilent.1.symm
        have hcount := hlike.2.trans hsilent.2.symm
        rw [hshows]
        refine ⟨hstate.trans (silentSteps_state _ _), fun hplain => hcount.trans (silentSteps_countdown _ hplain), fun n hn => ?_⟩
        obtain ⟨hlow, hhigh⟩ := countdown_of_paced hpass hn
        have hpaced := silentSteps_paced (k := s.imageShows) (s.timer.frame - s.snap.collFrame).toNat hn hlow hhigh
        rwa [← hcount] at hpaced
      · intro k left
        obtain ⟨hlike, hreceipts⟩ := hwalk hsorted
        refine ⟨(congrArg ShowControl.state hshows).trans hlike.1, (congrArg ShowControl.countdown hshows).trans hlike.2, ?_⟩
        have hrun : s.imageRun.receipts = outcomeReceipts s.own (installOutcome s.geometry deferred s.snap.collFrame s.imageShows) deferred :=
          hreceipts
        rw [hsub, hrun]
        rfl

end Sys2Proof.Proofs

/-! SUPPORT. The bytes of a capture, read back as an install reads them (R131, R145, Tables 9-1, 13-4, 13-5). -/

namespace Sys2Proof.Machine

/-- In a list of blocks of one length, byte `j` of block `i`. -/
theorem getD_flatMap {α : Type} {f : α → List Byte} {size : Nat} (hsize : ∀ x, (f x).length = size) {l : List α} {i j : Nat}
    (hi : i < l.length) (hj : j < size) : (l.flatMap f).getD (size * i + j) 0 = (f l[i]).getD j 0 := by
  induction l generalizing i with
  | nil => exact absurd hi (Nat.not_lt_zero i)
  | cons x l ih =>
    rw [List.flatMap_cons]
    cases i with
    | zero =>
      rw [Nat.mul_zero, Nat.zero_add, List.getD_append _ _ _ _ (by rw [hsize]; exact hj)]
      rfl
    | succ i =>
      have hlen : (f x).length ≤ size * (i + 1) + j := by rw [hsize, Nat.mul_succ]; omega
      rw [List.getD_append_right _ _ _ _ hlen, hsize]
      have hrest : size * (i + 1) + j - size = size * i + j := by rw [Nat.mul_succ]; omega
      rw [hrest, ih (by simpa using hi)]
      rfl

theorem length_flatMap_of_size {α : Type} {f : α → List Byte} {size : Nat} (hsize : ∀ x, (f x).length = size) (l : List α) :
    (l.flatMap f).length = size * l.length := by
  induction l with
  | nil => rfl
  | cons x l ih => rw [List.flatMap_cons, List.length_append, hsize, ih, List.length_cons, Nat.mul_succ, Nat.add_comm]

theorem windowEntryBytes_length (w : Option Window) : (windowEntryBytes w).length = 16 := by
  cases w <;> rfl

theorem imageByte_imageOf (bytes : List Byte) {n : Nat} (h : n < 1184) : imageByte (imageOf bytes) n = bytes.getD n 0 := by
  simp [imageByte, imageOf, h]

section
variable (s : State)

theorem wallHeader_length (p : Straps) (c : Configuration) (o : Objects) (k : ShowControl) : (wallHeader p c o k).length = 32 := rfl

/-- The wall header stands at the front of a capture. -/
theorem imageByte_capture_header {n : Nat} (h : n < 32) :
    imageByte s.captureImage n = (wallHeader s.straps s.cfg s.obj s.shows).getD n 0 := by
  have hlen := wallHeader_length s.straps s.cfg s.obj s.shows
  rw [State.captureImage, imageByte_imageOf _ (by omega), imageList, List.append_assoc, List.append_assoc,
    List.getD_append _ _ _ _ (by rw [hlen]; exact h)]

/-- Byte `n` behind the wall header. -/
theorem imageByte_capture_body {n : Nat} (h : n < 1152) :
    imageByte s.captureImage (32 + n) =
      (s.obj.windows.toList.flatMap windowEntryBytes ++ (s.obj.image.toList.flatMap (fun row => row.toList) ++
        s.obj.palette.toList.flatMap rgbBytes)).getD n 0 := by
  have hlen := wallHeader_length s.straps s.cfg s.obj s.shows
  rw [State.captureImage, imageByte_imageOf _ (by omega), imageList, List.append_assoc, List.append_assoc,
    List.getD_append_right _ _ _ _ (by omega), hlen, Nat.add_sub_cancel_left]

theorem windows_length : (s.obj.windows.toList.flatMap windowEntryBytes).length = 128 := by
  rw [length_flatMap_of_size windowEntryBytes_length, Vector.length_toList]

theorem rows_length : (s.obj.image.toList.flatMap fun row => row.toList).length = 256 := by
  rw [length_flatMap_of_size (size := 8) fun row => Vector.length_toList, Vector.length_toList]

theorem imageByte_capture_window (i : Fin 8) {j : Nat} (h : j < 16) :
    imageByte s.captureImage (32 + 16 * i.val + j) = (windowEntryBytes s.obj.windows[i]).getD j 0 := by
  have hi := i.isLt
  rw [Nat.add_assoc, imageByte_capture_body s (by omega), List.getD_append _ _ _ _ (by rw [windows_length]; omega),
    getD_flatMap windowEntryBytes_length (by simp) h]
  simp

theorem imageByte_capture_row (r : Fin 32) (j : Fin 8) : imageByte s.captureImage (160 + 8 * r.val + j.val) = s.obj.image[r][j] := by
  have hr := r.isLt
  have hj := j.isLt
  have hplace : 160 + 8 * r.val + j.val = 32 + (128 + (8 * r.val + j.val)) := by omega
  have hrow : (s.obj.image.toList.flatMap fun row => row.toList).getD (8 * r.val + j.val) 0 = (s.obj.image.toList[r.val]'(by simp)).toList.getD j.val 0 :=
    getD_flatMap (f := fun row : CursorBytes => row.toList) (fun row => Vector.length_toList) (by simp) hj
  rw [hplace, imageByte_capture_body s (by omega), List.getD_append_right _ _ _ _ (by rw [windows_length]; omega), windows_length,
    Nat.add_sub_cancel_left, List.getD_append _ _ _ _ (by rw [rows_length]; omega), hrow]
  simp

theorem imageByte_capture_palette (i : Fin 256) {j : Nat} (h : j < 3) :
    imageByte s.captureImage (416 + 3 * i.val + j) = (rgbBytes s.obj.palette[i]).getD j 0 := by
  have hi := i.isLt
  have hplace : 416 + 3 * i.val + j = 32 + (128 + (256 + (3 * i.val + j))) := by omega
  rw [hplace, imageByte_capture_body s (by omega), List.getD_append_right _ _ _ _ (by rw [windows_length]; omega), windows_length,
    Nat.add_sub_cancel_left, List.getD_append_right _ _ _ _ (by rw [rows_length]; omega), rows_length, Nat.add_sub_cancel_left,
    getD_flatMap (f := rgbBytes) (size := 3) (fun _ => rfl) (by simp) h]
  simp

theorem imageHalf_capture_header {n : Nat} {v : Half} (h : n + 1 < 32)
    (hlow : (wallHeader s.straps s.cfg s.obj s.shows).getD n 0 = v.extractLsb' 0 8)
    (hhigh : (wallHeader s.straps s.cfg s.obj s.shows).getD (n + 1) 0 = v.extractLsb' 8 8) : imageHalf s.captureImage n = v := by
  rw [imageHalf, imageByte_capture_header s (by omega), imageByte_capture_header s h, hlow, hhigh]
  exact halfOf_halfBytes v

theorem setWidth_nibble (v : BitVec 4) : (v.setWidth 8).extractLsb' 0 4 = v := by
  revert v
  decide

theorem flagByte_eq_one (b : Bool) : (flagByte b == 1) = b := by cases b <;> rfl

/-- The half-words of a present window's entry. -/
theorem imageHalf_capture_window (i : Fin 8) {w : Window} (hw : s.obj.windows[i] = some w) {j : Nat} {v : Half} (h : j + 1 < 16)
    (hlow : (windowEntryBytes (some w)).getD j 0 = v.extractLsb' 0 8)
    (hhigh : (windowEntryBytes (some w)).getD (j + 1) 0 = v.extractLsb' 8 8) :
    imageHalf s.captureImage (32 + 16 * i.val + j) = v := by
  rw [imageHalf, imageByte_capture_window s i (by omega), Nat.add_assoc, imageByte_capture_window s i h, hw, hlow, hhigh]
  exact halfOf_halfBytes v

theorem imagePresent_capture (i : Fin 8) : imagePresent s.captureImage i = if s.obj.windows[i].isSome then 1 else 0 := by
  have h := imageByte_capture_window s i (j := 0) (by decide)
  rw [imagePresent]
  refine h.trans ?_
  cases s.obj.windows[i] <;> rfl

/-- The fields of a present window come back (Table 13-5). -/
theorem imageWindow_capture (i : Fin 8) {w : Window} (hw : s.obj.windows[i] = some w) : imageWindow s.captureImage i = w := by
  have hsource : (imageByte s.captureImage (32 + 16 * i.val + 1)).extractLsb' 0 4 = w.source := by
    rw [imageByte_capture_window s i (by decide), hw]
    exact setWidth_nibble w.source
  have hlayer : (imageByte s.captureImage (32 + 16 * i.val + 2)).extractLsb' 0 4 = w.layer := by
    rw [imageByte_capture_window s i (by decide), hw]
    exact setWidth_nibble w.layer
  have half {j : Nat} {v : Half} (h : j + 1 < 16) := imageHalf_capture_window s i hw (j := j) (v := v) h
  rw [imageWindow, hsource, hlayer, half (v := w.x) (by decide) rfl rfl, half (v := w.y) (by decide) rfl rfl,
    half (v := w.width) (by decide) rfl rfl, half (v := w.height) (by decide) rfl rfl, half (v := w.panX) (by decide) rfl rfl,
    half (v := w.panY) (by decide) rfl rfl]

theorem imageObjects_capture : imageObjects s.captureImage = s.obj := by
  have header {n : Nat} (h : n < 32) := imageByte_capture_header s h
  have half {n : Nat} {v : Half} (h : n + 1 < 32) := imageHalf_capture_header s (n := n) (v := v) h
  have hpalette : (imageObjects s.captureImage).palette = s.obj.palette := by
    refine Vector.ext fun i hi => ?_
    have byte {j : Nat} (h : j < 3) := imageByte_capture_palette s ⟨i, hi⟩ h
    have hred := byte (j := 0) (by decide)
    have hgreen := byte (j := 1) (by decide)
    have hblue := byte (j := 2) (by decide)
    simp only [imageObjects, table_getElem, imageRGB]
    rw [show imageByte s.captureImage (416 + 3 * i) = _ from hred, hgreen, hblue]
    rfl
  have himage : (imageObjects s.captureImage).image = s.obj.image := by
    refine Vector.ext fun r hr => Vector.ext fun j hj => ?_
    exact (imageObjects_image s.captureImage ⟨r, hr⟩ ⟨j, hj⟩).trans (imageByte_capture_row s ⟨r, hr⟩ ⟨j, hj⟩)
  have hwindows : (imageObjects s.captureImage).windows = s.obj.windows := by
    refine Vector.ext fun i hi => ?_
    have hpresent := imagePresent_capture s ⟨i, hi⟩
    simp only [imageObjects, table_getElem, hpresent]
    cases hw : s.obj.windows[(⟨i, hi⟩ : Fin 8)] with
    | none => rfl
    | some w =>
      rw [imageWindow_capture s ⟨i, hi⟩ hw]
      rfl
  have hlook : (imageObjects s.captureImage).look = s.obj.look := by
    simp only [imageObjects, imageRGB]
    rw [header (n := 14) (by decide), header (n := 19) (by decide), header (n := 20) (by decide), header (n := 21) (by decide),
      header (n := 22) (by decide), header (n := 23) (by decide), header (n := 24) (by decide)]
    exact congrArg (fun b => (⟨b, s.obj.look.colourA, s.obj.look.colourB⟩ : CursorLook)) (flagByte_eq_one s.obj.look.visible)
  have hx : (imageObjects s.captureImage).curX = s.obj.curX := half (by decide) rfl rfl
  have hy : (imageObjects s.captureImage).curY = s.obj.curY := half (by decide) rfl rfl
  have hback : (imageObjects s.captureImage).background = s.obj.background := header (n := 13) (by decide)
  calc imageObjects s.captureImage
      = ⟨(imageObjects s.captureImage).palette, (imageObjects s.captureImage).look, (imageObjects s.captureImage).image,
          (imageObjects s.captureImage).curX, (imageObjects s.captureImage).curY, (imageObjects s.captureImage).windows,
          (imageObjects s.captureImage).background⟩ := rfl
    _ = s.obj := by rw [hpalette, hlook, himage, hx, hy, hwindows, hback]

end

end Sys2Proof.Machine

namespace Sys2Proof.Proofs

open Sys2Proof Sys2Proof.Machine

/-- Settles O26: the objects, the show state with its countdown, and the geometry of a capture come back. -/
theorem captureAndInstallAgree : Obligations.CaptureAndInstallAgree := by
  intro s hshow
  have header {n : Nat} (h : n < 32) := imageByte_capture_header s h
  have half {n : Nat} {v : Half} (h : n + 1 < 32) := imageHalf_capture_header s (n := n) (v := v) h
  have hcode : imageByte s.captureImage 10 = showCode s.shows.state := header (by decide)
  have harg : imageByte s.captureImage 11 = showArgByte s.shows.state := header (by decide)
  have hcount : imageByte s.captureImage 12 = BitVec.ofNat 8 s.shows.countdown := header (by decide)
  have hsmall : s.shows.countdown < 256 := by
    unfold ShowInv at hshow
    split at hshow <;> omega
  refine ⟨imageObjects_capture s, ?_, ?_, ?_⟩
  · cases hst : s.shows.state with
    | stopped mode =>
      rw [hst] at hcode harg
      rw [imageShow_stopped hcode, harg]
      cases mode <;> rfl
    | running =>
      rw [hst] at hcode
      exact imageShow_running hcode
    | held =>
      rw [hst] at hcode
      exact imageShow_held hcode
    | paced n =>
      rw [hst] at hcode harg
      have hfactor : n ≤ 8 := by
        unfold ShowInv at hshow
        rw [hst] at hshow
        exact hshow.2.1
      have harg' : (imageByte s.captureImage 11).toNat = n := by
        rw [harg]
        exact Nat.mod_eq_of_lt (by omega)
      rw [imageShow_paced hcode, harg']
  · rw [hcount]
    exact Nat.mod_eq_of_lt hsmall
  · have hcols := s.straps.colPins.isLt
    have hrows := s.straps.rowPins.isLt
    have hcolumns : (imageByte s.captureImage 0).toNat = s.straps.colPins.val + 1 :=
      (congrArg BitVec.toNat (header (n := 0) (by decide))).trans (Nat.mod_eq_of_lt (by change s.straps.colPins.val + 1 < 256; omega))
    have hrowCount : (imageByte s.captureImage 1).toNat = s.straps.rowPins.val + 1 :=
      (congrArg BitVec.toNat (header (n := 1) (by decide))).trans (Nat.mod_eq_of_lt (by change s.straps.rowPins.val + 1 < 256; omega))
    exact (geometryMatches_iff ..).2 ⟨hcolumns, hrowCount, half (by decide) rfl rfl, half (by decide) rfl rfl, half (by decide) rfl rfl,
      header (by decide), header (by decide)⟩

end Sys2Proof.Proofs

/-! SUPPORT. A frame start between two frames, the removal of leavers, and the station commands that are accepted (R23, R34 to R39, R48 to
R52, R59). -/

namespace Sys2Proof.Machine

/-! ### The frame start between two frames (R2, R23) -/

/-- The state in which the blocks do their work: the timer has restarted and the attempt of the second half has left the bus as `b`. -/
def State.begun (b : Bus) (s : State) : State := (s.withBus b).startTimer true

theorem effect_frame_between {s : State} (h : s.betweenSlots) :
    ∃ b, effect .ownFrameTimerExpiry s = ((s.begun b).blockWork.evaluateOutput).openWindow 0 := by
  have hend : ∃ b, s.endFrame = s.withBus b := by
    rw [State.endFrame_of_between h]
    unfold State.countBad
    split
    · split
      · exact ⟨_, rfl⟩
      · exact ⟨_, rfl⟩
    · exact ⟨s.bus, rfl⟩
  obtain ⟨b, hb⟩ := hend
  refine ⟨b, ?_⟩
  change (((s.endFrame.startTimer true).blockWork).evaluateOutput).openWindow 0 = _
  rw [hb]
  rfl

/-! ### The removal of leavers (R59) -/

/-- An entry whose leave frame has come. -/
def Entry.gone (e : Entry) : Entry := { e with state := .absent, expected := none, leaveFrame := none }

/-- Whether a position's entry goes at the current frame. -/
def State.goes (s : State) (p : Position) : Bool := decide (p ≠ s.own) && leaveFrameCome s.timer.frame s.roster[p]

theorem State.removeLeaver_eq (k : Position) (s : State) :
    s.removeLeaver k =
      { s with
        roster := if s.goes k = true then s.roster.set k s.roster[k].gone else s.roster
        events.wall.rosterChanged := s.events.wall.rosterChanged || s.goes k } := by
  have hiff : (k ≠ s.own ∧ leaveFrameCome s.timer.frame s.roster[k] = true) ↔ s.goes k = true := by
    rw [State.goes, Bool.and_eq_true, decide_eq_true_iff]
  unfold State.removeLeaver
  by_cases h : s.goes k = true
  · have hleaving : s.roster[k].state = .leaving := by
      have hcome := (hiff.2 h).2
      rw [leaveFrameCome, Bool.and_eq_true] at hcome
      revert hcome
      cases s.roster[k].state <;> simp
    have habsent : (s.roster[k].gone).state ≠ .member := nofun
    have hchanged : (s.roster[k].state != (s.roster[k].gone).state) = true := by rw [hleaving]; rfl
    have hpeer : ¬(s.roster[k].state = .member ∧ s.snap.collSource = k ∧ s.snap.coll = .collecting) := by
      rw [hleaving]
      exact fun h => absurd h.1 nofun
    have hupdate := State.updateEntry_of_not_member (k := k) (s := s) habsent
    rw [hchanged, if_neg hpeer, decide_eq_false hpeer, Bool.or_false] at hupdate
    rw [if_pos (hiff.2 h), if_pos h, h]
    exact hupdate
  · have hno : s.goes k = false := Bool.eq_false_iff.2 h
    rw [if_neg fun h' => h (hiff.1 h'), if_neg h, hno, Bool.or_false]

/-- The removal touches the roster and its event alone, and each entry goes by its own leave frame. -/
theorem State.foldl_removeLeaver (l : List Position) (hl : l.Nodup) (s : State) :
    ∃ roster : Vector Entry 16,
      l.foldl (fun s k => s.removeLeaver k) s =
        { s with roster := roster, events.wall.rosterChanged := s.events.wall.rosterChanged || l.any s.goes } ∧
      ∀ p : Position, roster[p] = if p ∈ l ∧ s.goes p = true then s.roster[p].gone else s.roster[p] := by
  induction l generalizing s with
  | nil => exact ⟨s.roster, by simp, fun p => by simp⟩
  | cons k l ih =>
    obtain ⟨hk, hl⟩ := List.nodup_cons.1 hl
    obtain ⟨roster, heq, hroster⟩ := ih hl (s.removeLeaver k)
    have hstep := s.removeLeaver_eq k
    have hother (p : Position) (hp : p ≠ k) : (s.removeLeaver k).roster[p] = s.roster[p] := by
      rw [hstep]
      dsimp only
      split
      · exact s.roster_setEntry_of_ne hp _
      · rfl
    have hself : (s.removeLeaver k).roster[k] = if s.goes k = true then s.roster[k].gone else s.roster[k] := by
      rw [hstep]
      dsimp only
      split
      · exact s.roster_setEntry_self k _
      · rfl
    have hgoes (p : Position) (hp : p ≠ k) : (s.removeLeaver k).goes p = s.goes p := by
      have hown : (s.removeLeaver k).own = s.own := by simp [State.own]
      have htimer : (s.removeLeaver k).timer = s.timer := by simp
      rw [State.goes, State.goes, hother p hp, hown, htimer]
    have hany : l.any (s.removeLeaver k).goes = l.any s.goes := by
      rw [Bool.eq_iff_iff, List.any_eq_true, List.any_eq_true]
      refine exists_congr fun p => and_congr_right fun hp => ?_
      rw [hgoes p fun h => hk (h ▸ hp)]
    refine ⟨roster, ?_, fun p => ?_⟩
    · rw [List.foldl_cons, heq, hany, hstep, List.any_cons, Bool.or_assoc]
    · rw [hroster p]
      by_cases hp : p = k
      · subst hp
        simp only [hk, false_and, if_false, hself, List.mem_cons_self, true_and]
      · rw [hother p hp, hgoes p hp]
        simp [hp]

theorem State.removeLeavers_eq (s : State) :
    ∃ roster : Vector Entry 16,
      s.removeLeavers =
        { s with roster := roster, events.wall.rosterChanged := s.events.wall.rosterChanged || (List.finRange 16).any s.goes } ∧
      ∀ p : Position, roster[p] = if s.goes p = true then s.roster[p].gone else s.roster[p] := by
  obtain ⟨roster, heq, hroster⟩ := s.foldl_removeLeaver (List.finRange 16) (List.nodup_finRange 16)
  exact ⟨roster, heq, fun p => by rw [hroster p]; simp⟩

end Sys2Proof.Machine

/-! SUPPORT. The station commands that are accepted, and the end of a leave (R34 to R39, R48 to R52). -/

namespace Sys2Proof.Machine

/-! ### What an entry to OFFLINE or FAULT leaves (R17, R34) -/

theorem strapsPass_iff (p : Straps) :
    strapsPass p = true ↔
      (p.colPins.val + 1) * (p.rowPins.val + 1) ≤ 16 ∧ p.pos.val < (p.colPins.val + 1) * (p.rowPins.val + 1) := decide_eq_true_iff

theorem strapsPass_false {p : Straps}
    (h : 16 < (p.colPins.val + 1) * (p.rowPins.val + 1) ∨ (p.colPins.val + 1) * (p.rowPins.val + 1) ≤ p.pos.val) : strapsPass p = false := by
  rw [← Bool.not_eq_true, strapsPass_iff]
  omega

/-- The bus of a station that stops sending (R17). -/
theorem busOnState_quiet {new : StationState} (b : Bus) (h : transmits new = false) (hloop : new ≠ .loopback) :
    busOnState new b =
      { b with
        sending := false, awaiting := .none, runCount := 0
        attempt := if b.awaiting = .pair then .ended else b.attempt } := by
  cases hb : b.awaiting with
  | none =>
    simp [busOnState, h, hloop, cutMessage, hb]
  | pair => simp [busOnState, h, hloop, cutMessage, hb]
  | looped => simp [busOnState, h, hloop, cutMessage, hb]

theorem State.enterOffline_credits (s : State) : s.enterOffline.credits = s.credits := by
  have hused : s.clearPendingList.clearOutbound.creditsUsed = s.creditsUsed :=
    (State.clearOutbound_creditsUsed _).trans (State.clearPendingList_creditsUsed s)
  exact congrArg (fun n => Config.creditTotal - n) hused

/-- With the wall side clear already nothing of the submission unit moves (R75). -/
theorem State.subCleared_of_empty {s : State} (hlist : s.sched.list = []) (hqueue : s.sub.outbound = []) : s.subCleared = s.sub := by
  have hreceipts : s.clearedReceipts = [] := by simp [State.clearedReceipts, hlist, hqueue]
  have hself : s.sub = { s.sub with outbound := s.sub.outbound } := rfl
  rw [hqueue] at hself
  simp [State.subCleared, hreceipts, hqueue, ← hself]

/-- After an entry to OFFLINE every entry of the roster is ABSENT, the own one as well (R34, R54). -/
theorem State.enterOffline_entry (s : State) (p : Position) : s.enterOffline.entry p = ⟨.absent, 0, none, none⟩ := by
  by_cases hown : p = s.own
  · exact if_pos hown
  · have hroster : s.enterOffline.entry p = clearedRoster[p] := if_neg hown
    rw [hroster]
    simp [clearedRoster, absentEntry]

/-- The report that a leave has reached OFFLINE, with the flag set and without (R174). -/
theorem reportLeaveDone_eq (v : Service) : reportLeaveDone v = if v.follow = true then { v with led := .on, follow := false } else v := by
  cases hfollow : v.follow with
  | false =>
    have hself : ({ v with follow := false } : Service) = v := by rw [← hfollow]
    simpa [reportLeaveDone, hfollow] using hself
  | true => simp [reportLeaveDone, setLed, hfollow]

/-- At the own leave frame the station applies nothing and is OFFLINE (R51, R52). -/
theorem State.blockWork_leaveDone {s : State} (hst : s.ctl.state = .leaving) (hleave : s.ctl.leaveFrame = some s.timer.frame) :
    s.blockWork =
      { s.sendDeferredWord.enterOffline with
        svc := if s.ctl.requestedLeave = true ∧ s.svc.follow = true then { s.svc with led := .on, follow := false } else s.svc } := by
  have hwork : s.blockWork = s.leaveDone := by
    unfold State.blockWork
    rw [hst]
    exact if_pos hleave
  rw [hwork, State.leaveDone]
  cases hrequested : s.ctl.requestedLeave with
  | false =>
    simp only [Bool.false_eq_true, if_false, false_and]
    rfl
  | true =>
    simp only [if_true, true_and]
    exact congrArg (fun v => { s.sendDeferredWord.enterOffline with svc := v }) (reportLeaveDone_eq s.svc)

end Sys2Proof.Machine

namespace Sys2Proof.Proofs

open Sys2Proof Sys2Proof.Machine

/-- Settles O28: JOIN and LOOPBACK, with straps that pass and with straps that fail. -/
theorem joinOrLoopbackInOffline : Obligations.JoinOrLoopbackInOffline := by
  refine ⟨fun s hst => ?_, fun s hst => ?_⟩
  · intro cols rows
    have hjoin : effect .join s = if strapsPass s.straps = true then (s.portWrite 0x28).startListening else (s.portWrite 0x28).enterFault .strap :=
      if_pos hst
    refine ⟨fun hpass => ?_, fun hfail => ?_⟩
    · refine congrArg Host.Outcome.next ((hjoin.trans (if_pos ((strapsPass_iff _).2 hpass))).trans ?_)
      have hdriving : (s.timer.driving && transmits .listening) = false := Bool.and_false _
      have hshowing : (s.comp.showing && applies .listening) = false := Bool.and_false _
      have hsnap : snapOnState .listening s.snap = { s.snap with streaming := false, coll := .idle, eLost := none } :=
        congrArg (fun b => { s.snap with streaming := b, coll := .idle, eLost := none }) (Bool.and_false _)
      simp only [State.startListening, State.changeState]
      rw [show (s.portWrite 0x28).timer = s.timer from rfl, show (s.portWrite 0x28).comp = s.comp from rfl,
        show (s.portWrite 0x28).snap = s.snap from rfl, hdriving, hshowing, hsnap]
      rfl
    · refine ⟨(s.portWrite 0x28).enterFault .strap, congrArg Host.Outcome.next (hjoin.trans ?_), rfl, rfl, State.enterFault_sub _ _, rfl, rfl, rfl,
        rfl, rfl, rfl, rfl, rfl⟩
      rw [strapsPass_false hfail]
      rfl
  · intro cols rows
    have hloopback : effect .loopback s = if strapsPass s.straps = true then (s.portWrite 0x28).startLoopback else (s.portWrite 0x28).enterFault .strap :=
      if_pos hst
    refine ⟨fun hpass => ?_, fun hfail => ?_⟩
    · refine ⟨(s.portWrite 0x28).startLoopback, congrArg Host.Outcome.next (hloopback.trans (if_pos ((strapsPass_iff _).2 hpass))), ?_⟩
      have hqualifying : qualifying (tileRect s.straps s.cfg) defaultObjects.windows = [] := qualifying_default _
      have hviews : deriveViews (tileRect s.straps s.cfg) defaultObjects.windows = [] := by simp [deriveViews, hqualifying, stackingOrder]
      have hentry (p : Position) : ((s.portWrite 0x28).startLoopback.entry p).state = if p = s.own then .member else .absent := by
        by_cases hown : p = s.own
        · rw [if_pos hown]
          exact congrArg Entry.state (if_pos hown)
        · rw [if_neg hown]
          have hroster : (s.portWrite 0x28).startLoopback.entry p = clearedRoster[p] := if_neg hown
          rw [hroster]
          simp [clearedRoster, absentEntry]
      have href : (s.portWrite 0x28).startLoopback.reference = some s.own := by
        refine State.reference_eq_some_iff.2 ⟨(hentry _).trans (if_pos rfl), fun q hq => ?_⟩
        rw [hentry, if_neg hq.ne]
        exact nofun
      exact ⟨rfl, rfl, rfl, hentry, href, rfl, hviews, congrArg List.length hqualifying,
        congrArg (fun q : List (Fin 8 × Window) => decide (4 < q.length)) hqualifying, rfl, rfl, rfl, rfl, rfl, rfl, rfl, rfl, rfl, rfl, rfl⟩
    · refine ⟨(s.portWrite 0x28).enterFault .strap, congrArg Host.Outcome.next (hloopback.trans ?_), rfl, rfl, State.enterFault_sub _ _, rfl, rfl⟩
      rw [strapsPass_false hfail]
      rfl

/-- Settles O29: LEAVE and UNLOOP, and CLEAR_FAULT. -/
theorem entryToOfflineByCommand : Obligations.EntryToOfflineByCommand := by
  refine ⟨fun c s h => ?_, fun s hst hlist hqueue => ?_⟩
  · have heffect : effect c s = (s.portWrite 0x28).enterOffline := by
      rcases h with ⟨rfl, hst⟩ | ⟨rfl, hst⟩
      · exact effect_leave_entering hst
      · exact if_pos hst
    refine ⟨(s.portWrite 0x28).enterOffline, (exec_eq_next c s).trans (congrArg Host.Outcome.next heffect), rfl, rfl, rfl,
      (s.portWrite 0x28).enterOffline_entry, rfl, rfl, rfl, rfl, Bool.and_false _, rfl, ?_⟩
    have hbus : (s.portWrite 0x28).enterOffline.bus = _ := busOnState_quiet (new := .offline) s.bus rfl nofun
    rw [hbus]
    exact ⟨rfl, rfl, rfl, Bool.and_false _, rfl, rfl, rfl, (s.portWrite 0x28).enterOffline_credits, rfl, rfl, rfl, rfl,
      (s.portWrite 0x28).enterOffline_sub, rfl, rfl, rfl, rfl⟩
  · have heffect : effect .clearFault s = _ := if_pos hst
    refine ⟨effect .clearFault s, rfl, ?_⟩
    rw [heffect]
    refine ⟨rfl, rfl, ?_, ?_, rfl, rfl, rfl, rfl, rfl, rfl⟩
    · exact (s.portWrite 0x28).enterOffline_sub.trans (State.subCleared_of_empty hlist hqueue)
    · exact congrArg (fun l => { s.sched with list := l }) hlist.symm

/-- Settles O30: LEAVE in MEMBER, and the frame start that is the leave frame. -/
theorem leavingFixesAndReachesLeaveFrame : Obligations.LeavingFixesAndReachesLeaveFrame := by
  refine ⟨fun s hst => ?_, fun s hbetween hst hleave => ?_⟩
  · refine congrArg Host.Outcome.next ((effect_leave_member hst).trans ?_)
    have hdriving : (s.timer.driving && transmits .leaving) = s.timer.driving := Bool.and_true _
    have hshowing : (s.comp.showing && applies .leaving) = s.comp.showing := Bool.and_true _
    have hsnap : snapOnState .leaving s.snap = { s.snap with streaming := false, coll := .idle, eLost := none } :=
      congrArg (fun b => { s.snap with streaming := b, coll := .idle, eLost := none }) (Bool.and_false _)
    have hframe := (s.portWrite 0x28).leaveFrameNow_eq
    simp only [State.beginLeaving, State.changeState, hframe]
    rw [show (s.portWrite 0x28).timer = s.timer from rfl, show (s.portWrite 0x28).comp = s.comp from rfl,
      show (s.portWrite 0x28).snap = s.snap from rfl, hdriving, hshowing, hsnap]
    rfl
  · obtain ⟨b, heffect⟩ := effect_frame_between hbetween
    refine ⟨effect .ownFrameTimerExpiry s, rfl, ?_⟩
    rw [heffect, State.blockWork_leaveDone (s := s.begun b) hst hleave]
    have hshowing (v : Service) :
        ((({ (s.begun b).sendDeferredWord.enterOffline with svc := v } : State).evaluateOutput).openWindow 0).comp.showing = false := by
      have hsends : applies ((s.begun b).sendDeferredWord.enterOffline).ctl.state = false := rfl
      have hcleared : ((s.begun b).sendDeferredWord.enterOffline).comp.showing = false := Bool.and_false _
      simp [State.evaluateOutput, State.openWindow, hsends, hcleared]
    exact ⟨rfl, rfl, rfl, (s.begun b).sendDeferredWord.enterOffline_sub, rfl, Bool.and_false _, hshowing _, rfl, rfl, rfl, rfl⟩

end Sys2Proof.Proofs

/-! SUPPORT. The pacing step, the word of a frame start, and the walk that ends an install (R118, R121, R125, R126). -/

namespace Sys2Proof.Machine

theorem pacingStep_of_not_paced {k : ShowControl} (h : ∀ n, k.state ≠ .paced n) : pacingStep k = k := by
  unfold pacingStep
  split
  · next n hn => exact absurd hn (h n)
  all_goals rfl

theorem pacingStep_of_paced {k : ShowControl} {n : Nat} (h : k.state = .paced n) :
    pacingStep k = if k.countdown ≤ 1 then { k with countdown := n, transition := .advance } else { k with countdown := k.countdown - 1 } := by
  have hzero : k.countdown - 1 = 0 ↔ k.countdown ≤ 1 := by omega
  simp only [pacingStep, h, hzero]

/-- A pacing step moves the countdown and the transition word alone. -/
theorem pacingStep_fields (k : ShowControl) :
    pacingStep k = { k with countdown := (pacingStep k).countdown, transition := (pacingStep k).transition } := by
  unfold pacingStep
  split
  · split <;> rfl
  all_goals rfl

theorem silentSteps_fields (n : Nat) (k : ShowControl) : silentSteps n k = { k with countdown := (silentSteps n k).countdown } := by
  induction n generalizing k with
  | zero => rfl
  | succ n ih =>
    rw [silentSteps, ih, pacingStep_fields]

/-- With an install position the walk ends at the current frame (R125, R126). -/
theorem endInstall_of_position {k : ShowControl} {p : Frame} (g : Frame) (h : k.installPos = some p) :
    endInstall g k =
      { k with
        installPos := none, deferred := some (installWord k.state), countdown := (silentSteps (g - p).toNat k).countdown } := by
  have hframes : framesUpTo k g = (g - p).toNat := by simp only [framesUpTo, h]
  simp only [endInstall, hframes, silentSteps_state]
  rw [silentSteps_fields]

end Sys2Proof.Machine

namespace Sys2Proof.Proofs

open Sys2Proof Sys2Proof.Machine

/-- Settles O36: the pacing step and the word of a frame start, and the steps of an install. -/
theorem pacingWordAndInstallWalk : Obligations.PacingWordAndInstallWalk := by
  refine ⟨⟨fun k n hpaced hword => ⟨fun hone => ?_, fun htwo => ?_⟩, fun k h => pacingStep_of_not_paced h,
    fun k => ⟨fun h => ?_, fun w h hw => ?_, fun h hw => ?_⟩⟩, fun k p g hpos hstate => ?_, fun k p g n hpos hpaced _ hlow hhigh => ?_⟩
  · rw [pacingStep_of_paced hpaced, if_pos hone.le]
  · rw [pacingStep_of_paced hpaced, if_neg (by omega)]
  · simp only [sendWord, h, if_false]
  · simp only [sendWord, h, if_true, hw, Option.getD_some]
  · simp only [sendWord, h, if_true, hw, Option.getD_none]
  · rw [endInstall_of_position g hpos, silentSteps_countdown _ hstate]
    cases hst : k.state with
    | paced n => exact absurd hst (hstate n)
    | stopped m => cases m <;> rfl
    | running => rfl
    | held => rfl
  · obtain ⟨hl, hh, hmod⟩ := silentSteps_paced (g - p).toNat hpaced hlow hhigh
    refine ⟨_, ?_, hl, hh, hmod⟩
    rw [endInstall_of_position g hpos, hpaced]
    rfl

end Sys2Proof.Proofs

/-! SUPPORT. The view list: the windows that reach a tile, their stacking order and the first four of them (R149 to R151). -/

namespace Sys2Proof.Machine

/-! ### The windows that reach a tile -/

theorem tileRect_eq (p : Straps) (c : Configuration) :
    tileRect p c =
      ⟨(p.pos.val % p.columns : Nat) * c.tileW.toNat, (p.pos.val % p.columns : Nat) * c.tileW.toNat + c.tileW.toNat,
        (p.pos.val / p.columns : Nat) * c.tileH.toNat, (p.pos.val / p.columns : Nat) * c.tileH.toNat + c.tileH.toNat⟩ := by
  simp only [tileRect, add_mul, one_mul]

/-- Whether a window reaches a tile (R150 step 1). -/
def Window.reaches (tile : Rect) (w : Window) : Prop := ((windowRect w).inter tile).nonempty = true

theorem Window.reaches_iff (tile : Rect) (w : Window) :
    w.reaches tile ↔
      max w.x.toInt tile.x0 < min (w.x.toInt + w.width.toNat) tile.x1 ∧ max w.y.toInt tile.y0 < min (w.y.toInt + w.height.toNat) tile.y1 :=
  decide_eq_true_iff

/-- The entry that step 1 of R150 makes of an id. -/
theorem qualifying_entry_eq_some {tile : Rect} {windows : Vector (Option Window) 8} {i : Fin 8} {x : Fin 8 × Window} :
    (match windows[i] with
      | none => none
      | some w => if ((windowRect w).inter tile).nonempty then some (i, w) else none) = some x ↔
      x.1 = i ∧ windows[i] = some x.2 ∧ x.2.reaches tile := by
  obtain ⟨j, v⟩ := x
  cases hw : windows[i] with
  | none => simp
  | some w =>
    simp only [Option.ite_none_right_eq_some, Option.some.injEq, Prod.mk.injEq, Window.reaches]
    constructor
    · rintro ⟨hreach, rfl, rfl⟩
      exact ⟨rfl, rfl, hreach⟩
    · rintro ⟨rfl, rfl, hreach⟩
      exact ⟨hreach, rfl, rfl⟩

theorem mem_qualifying {tile : Rect} {windows : Vector (Option Window) 8} {x : Fin 8 × Window} :
    x ∈ qualifying tile windows ↔ windows[x.1] = some x.2 ∧ x.2.reaches tile := by
  unfold qualifying
  rw [List.mem_filterMap]
  constructor
  · rintro ⟨i, -, h⟩
    obtain ⟨rfl, hw, hreach⟩ := qualifying_entry_eq_some.1 h
    exact ⟨hw, hreach⟩
  · rintro ⟨hw, hreach⟩
    exact ⟨x.1, List.mem_finRange _, qualifying_entry_eq_some.2 ⟨rfl, hw, hreach⟩⟩

/-- The windows that reach the tile stand in id order. -/
theorem qualifying_ids (tile : Rect) (windows : Vector (Option Window) 8) : (qualifying tile windows).Pairwise fun a b => a.1 < b.1 := by
  refine List.Pairwise.filterMap _ (R := (· < ·)) ?_ (List.pairwise_lt_finRange 8)
  intro i j hij a ha b hb
  rw [(qualifying_entry_eq_some.1 ha).1, (qualifying_entry_eq_some.1 hb).1]
  exact hij

theorem length_qualifying (tile : Rect) (windows : Vector (Option Window) 8) (reaches : Fin 8 → Bool)
    (h : ∀ i, reaches i = true ↔ ∃ w, windows[i] = some w ∧ w.reaches tile) :
    (qualifying tile windows).length = ((List.finRange 8).filter reaches).length := by
  unfold qualifying
  rw [List.length_filterMap_eq_countP, ← List.countP_eq_length_filter]
  refine List.countP_congr fun i _ => ?_
  rw [h, Option.isSome_iff_exists]
  constructor
  · rintro ⟨x, hx⟩
    obtain ⟨-, hw, hreach⟩ := qualifying_entry_eq_some.1 hx
    exact ⟨x.2, hw, hreach⟩
  · rintro ⟨w, hw, hreach⟩
    exact ⟨(i, w), qualifying_entry_eq_some.2 ⟨rfl, hw, hreach⟩⟩

/-! ### The stacking order (R150 step 2) -/

/-- `a` stands above `b`: a higher layer, or the same layer and a lower id. -/
def Above (a b : Fin 8 × Window) : Prop := b.2.layer.toNat < a.2.layer.toNat ∨ (a.2.layer = b.2.layer ∧ a.1 < b.1)

theorem Above.trans {a b c : Fin 8 × Window} (h : Above a b) (h' : Above b c) : Above a c := by
  rcases h with h | ⟨h, hid⟩ <;> rcases h' with h' | ⟨h', hid'⟩
  · exact .inl (h'.trans h)
  · exact .inl (h' ▸ h)
  · exact .inl (h ▸ h')
  · exact .inr ⟨h.trans h', hid.trans hid'⟩

theorem insertByLayer_perm (x : Fin 8 × Window) (l : List (Fin 8 × Window)) : (insertByLayer x l).Perm (x :: l) := by
  induction l with
  | nil => exact .refl _
  | cons y l ih =>
    unfold insertByLayer
    split
    · exact .refl _
    · exact (ih.cons y).trans (.swap x y l)

/-- A window with a higher id than all the others takes its place in stacking order. -/
theorem insertByLayer_pairwise {x : Fin 8 × Window} {l : List (Fin 8 × Window)} (h : l.Pairwise Above) (hid : ∀ y ∈ l, y.1 < x.1) :
    (insertByLayer x l).Pairwise Above := by
  induction l with
  | nil => exact List.pairwise_singleton _ _
  | cons y l ih =>
    obtain ⟨hy, hl⟩ := List.pairwise_cons.1 h
    unfold insertByLayer
    split
    · next hlayer =>
      refine List.pairwise_cons.2 ⟨fun z hz => ?_, h⟩
      rcases List.mem_cons.1 hz with rfl | hz
      · exact .inl hlayer
      · exact Above.trans (.inl hlayer) (hy z hz)
    · next hlayer =>
      refine List.pairwise_cons.2 ⟨fun z hz => ?_, ih hl fun z hz => hid z (List.mem_cons_of_mem _ hz)⟩
      rcases List.mem_cons.1 ((insertByLayer_perm x l).mem_iff.1 hz) with rfl | hz
      · rcases (not_lt.1 hlayer).lt_or_eq with hlt | heq
        · exact .inl hlt
        · exact .inr ⟨BitVec.eq_of_toNat_eq heq.symm, hid y List.mem_cons_self⟩
      · exact hy z hz

theorem foldl_insertByLayer (q acc : List (Fin 8 × Window)) (hq : q.Pairwise fun a b => a.1 < b.1) (hacc : acc.Pairwise Above)
    (hid : ∀ y ∈ acc, ∀ x ∈ q, y.1 < x.1) :
    (q.foldl (fun acc x => insertByLayer x acc) acc).Pairwise Above ∧
      (q.foldl (fun acc x => insertByLayer x acc) acc).Perm (acc ++ q) := by
  induction q generalizing acc with
  | nil => exact ⟨hacc, by simp⟩
  | cons x q ih =>
    obtain ⟨hx, hq⟩ := List.pairwise_cons.1 hq
    have hperm := insertByLayer_perm x acc
    obtain ⟨hpair, htotal⟩ := ih (insertByLayer x acc) hq
      (insertByLayer_pairwise hacc fun y hy => hid y hy x List.mem_cons_self) fun y hy z hz => by
        rcases List.mem_cons.1 (hperm.mem_iff.1 hy) with rfl | hy
        · exact hx z hz
        · exact hid y hy z (List.mem_cons_of_mem _ hz)
    exact ⟨hpair, htotal.trans ((hperm.append_right q).trans List.perm_middle.symm)⟩

theorem stackingOrder_pairwise (tile : Rect) (windows : Vector (Option Window) 8) :
    (stackingOrder (qualifying tile windows)).Pairwise Above :=
  (foldl_insertByLayer _ [] (qualifying_ids tile windows) .nil nofun).1

theorem stackingOrder_perm (tile : Rect) (windows : Vector (Option Window) 8) :
    (stackingOrder (qualifying tile windows)).Perm (qualifying tile windows) :=
  (foldl_insertByLayer _ [] (qualifying_ids tile windows) .nil nofun).2

/-! ### The view list (R150 step 3, R151) -/

theorem length_deriveViews (tile : Rect) (windows : Vector (Option Window) 8) :
    (deriveViews tile windows).length = min 4 (qualifying tile windows).length := by
  rw [deriveViews, List.length_map, List.length_take, (stackingOrder_perm tile windows).length_eq]
  rfl

/-- The windows that have a view, in stacking order. -/
def kept (tile : Rect) (windows : Vector (Option Window) 8) : List (Fin 8 × Window) := (stackingOrder (qualifying tile windows)).take 4

theorem deriveViews_eq (tile : Rect) (windows : Vector (Option Window) 8) :
    deriveViews tile windows = (kept tile windows).map fun x => viewOf tile x.1 x.2 := rfl

theorem kept_reaches {tile : Rect} {windows : Vector (Option Window) 8} {x : Fin 8 × Window} (h : x ∈ kept tile windows) :
    windows[x.1] = some x.2 ∧ x.2.reaches tile :=
  mem_qualifying.1 ((stackingOrder_perm tile windows).mem_iff.1 (List.mem_of_mem_take h))

theorem mem_deriveViews {tile : Rect} {windows : Vector (Option Window) 8} {v : View} :
    v ∈ deriveViews tile windows ↔ ∃ x ∈ kept tile windows, viewOf tile x.1 x.2 = v := by
  rw [deriveViews_eq, List.mem_map]

theorem deriveViews_pairwise (tile : Rect) (windows : Vector (Option Window) 8) :
    (deriveViews tile windows).Pairwise fun a b => ∀ wa wb, windows[a.id] = some wa → windows[b.id] = some wb → Above (a.id, wa) (b.id, wb) := by
  rw [deriveViews_eq, List.pairwise_map]
  have habove : (kept tile windows).Pairwise Above := (stackingOrder_pairwise tile windows).take
  refine habove.imp_of_mem fun {a b} ha hb hab wa wb hwa hwb => ?_
  have hwa' : a.2 = wa := Option.some.inj ((kept_reaches ha).1.symm.trans hwa)
  have hwb' : b.2 = wb := Option.some.inj ((kept_reaches hb).1.symm.trans hwb)
  exact hwa' ▸ hwb' ▸ hab

/-- A window left out stands behind every one that is kept, and more than four reach the tile. -/
theorem left_out_behind {tile : Rect} {windows : Vector (Option Window) 8} {i : Fin 8} {w : Window} (hw : windows[i] = some w)
    (hreach : w.reaches tile) (hout : ∀ v ∈ deriveViews tile windows, v.id ≠ i) :
    4 < (qualifying tile windows).length ∧
      ∀ v ∈ deriveViews tile windows, ∀ wv, windows[v.id] = some wv → Above (v.id, wv) (i, w) := by
  have hmem : (i, w) ∈ stackingOrder (qualifying tile windows) :=
    (stackingOrder_perm tile windows).mem_iff.2 (mem_qualifying.2 ⟨hw, hreach⟩)
  rw [← List.take_append_drop 4 (stackingOrder (qualifying tile windows)), List.mem_append] at hmem
  have hdrop : (i, w) ∈ (stackingOrder (qualifying tile windows)).drop 4 :=
    hmem.resolve_left fun h => hout _ (mem_deriveViews.2 ⟨(i, w), h, rfl⟩) rfl
  refine ⟨?_, fun v hv wv hwv => ?_⟩
  · have hpos := List.length_pos_of_mem hdrop
    rw [List.length_drop, (stackingOrder_perm tile windows).length_eq] at hpos
    omega
  · obtain ⟨x, hx, rfl⟩ := mem_deriveViews.1 hv
    have hwx : x.2 = wv := Option.some.inj ((kept_reaches hx).1.symm.trans hwv)
    have hpair := stackingOrder_pairwise tile windows
    rw [← List.take_append_drop 4 (stackingOrder (qualifying tile windows))] at hpair
    exact hwx ▸ (List.pairwise_append.1 hpair).2.2 x hx _ hdrop

end Sys2Proof.Machine

namespace Sys2Proof.Proofs

open Sys2Proof Sys2Proof.Machine

/-- Settles O38: the view list of a recompute, its order and its entries. -/
theorem viewListOrderAndEntries : Obligations.ViewListOrderAndEntries := by
  intro p c o k col row tx ty reaches r
  have htile : tileRect p c = ⟨tx, tx + c.tileW.toNat, ty, ty + c.tileH.toNat⟩ := tileRect_eq p c
  have hreaches (w : Window) : w.reaches (tileRect p c) ↔ reaches w := by
    rw [Window.reaches_iff, htile]
  refine ⟨htile, ?_, rfl, length_deriveViews _ _, fun v hv => ?_, deriveViews_pairwise _ _, fun i w hw hreach hout => ?_, rfl, rfl, rfl, rfl⟩
  · refine length_qualifying _ _ _ fun i => ?_
    cases hw : o.windows[i] with
    | none => simp
    | some w => simp [hreaches]
  · obtain ⟨x, hx, rfl⟩ := mem_deriveViews.1 hv
    obtain ⟨hw, hreach⟩ := kept_reaches hx
    refine ⟨x.2, hw, (hreaches x.2).1 hreach, rfl, ?_, ?_, ?_⟩
    · rw [htile]; rfl
    · rw [htile]; rfl
    · rw [htile]; rfl
  · obtain ⟨hmany, hbehind⟩ := left_out_behind hw ((hreaches w).2 hreach) hout
    refine ⟨hmany, fun v hv wv hwv => ?_⟩
    exact (hbehind v hv wv hwv).imp id fun h => ⟨h.1.symm, h.2⟩

end Sys2Proof.Proofs

/-! SUPPORT. What the pair carries and what the picture of a frame is, bit by bit and pixel by pixel (R1, R160). -/

namespace Sys2Proof.Machine

/-! ### Lists of blocks of one length -/

/-- In a list of blocks of one length, element `j` of block `i`. -/
theorem getElem?_flatMap_block {α β : Type} {f : α → List β} {size : Nat} (hsize : ∀ x, (f x).length = size) (l : List α) (i : Nat) {j : Nat}
    (hj : j < size) : (l.flatMap f)[size * i + j]? = l[i]?.bind fun x => (f x)[j]? := by
  induction l generalizing i with
  | nil => rfl
  | cons x l ih =>
    rw [List.flatMap_cons]
    cases i with
    | zero =>
      rw [Nat.mul_zero, Nat.zero_add, List.getElem?_append_left (by rw [hsize]; exact hj)]
      rfl
    | succ i =>
      have hplace : size * (i + 1) + j = size + (size * i + j) := by rw [Nat.mul_succ]; omega
      rw [hplace, List.getElem?_append_right (by rw [hsize]; exact Nat.le_add_right _ _), hsize, Nat.add_sub_cancel_left, ih]
      rfl

theorem length_flatMap_block {α β : Type} {f : α → List β} {size : Nat} (hsize : ∀ x, (f x).length = size) (l : List α) :
    (l.flatMap f).length = size * l.length := by
  rw [List.length_flatMap, List.map_congr_left (g := fun _ => size) fun x _ => hsize x, List.map_const', List.sum_replicate, smul_eq_mul,
    Nat.mul_comm]

/-! ### The pair (R1) -/

theorem length_byteFrame (b : Byte) : (byteFrame b).length = 10 := rfl

theorem getElem?_byteFrame (b : Byte) {j : Nat} (hj : j < 10) :
    (byteFrame b)[j]? = some (if j = 0 then .start else if j = 9 then .stop else .data (b.getLsbD (j - 1))) := by
  interval_cases j <;> rfl

theorem State.length_messageBits (s : State) : s.messageBits.length = 10 * s.bus.txBuffer.length := length_flatMap_block length_byteFrame _

theorem State.pairBit_of_sending {s : State} (h : s.bus.sending = true) : s.pairBit = s.messageBits[10 * s.bus.sendElapsed / 64]? := if_pos h

theorem State.pairBit_of_silent {s : State} (h : s.bus.sending = false) : s.pairBit = none := if_neg (by rw [h]; exact nofun)

/-- After the message's last bit the pair carries nothing. -/
theorem State.pairBit_of_over {s : State} (h : 64 * s.bus.txBuffer.length ≤ s.bus.sendElapsed) : s.pairBit = none := by
  cases hsending : s.bus.sending with
  | false => exact State.pairBit_of_silent hsending
  | true =>
    rw [State.pairBit_of_sending hsending, List.getElem?_eq_none]
    rw [s.length_messageBits]
    omega

/-! ### The picture (R160) -/

theorem State.picture_eq (sources : Sources) (s : State) :
    s.picture sources =
      (List.range s.comp.height).flatMap fun v : Nat => (List.range s.comp.width).map fun u : Nat => s.pixelAt sources u v := by
  simp [State.picture, ← List.map_eq_flatMap, List.flatMap_map, Function.comp_def]

theorem State.length_picture (sources : Sources) (s : State) : (s.picture sources).length = s.comp.width * s.comp.height := by
  rw [State.picture_eq, length_flatMap_block (size := s.comp.width) (fun v => by simp), List.length_range]

theorem State.pixelOut_of_lt {s : State} {n : Nat} (sources : Sources) (h : n < s.comp.width * s.comp.height) :
    s.pixelOut sources n = some (s.pixelAt sources ↑(n % s.comp.width) ↑(n / s.comp.width)) := if_pos (decide_eq_true h)

theorem State.pixelOut_of_le {s : State} {n : Nat} (sources : Sources) (h : s.comp.width * s.comp.height ≤ n) : s.pixelOut sources n = none :=
  if_neg (by rw [State.pixDe, decide_eq_true_iff]; omega)

/-- The pixels of the picture are the pixels driven, in order. -/
theorem State.getElem?_picture (sources : Sources) (s : State) (n : Nat) : (s.picture sources)[n]? = s.pixelOut sources n := by
  rcases Nat.lt_or_ge n (s.comp.width * s.comp.height) with hn | hn
  · have hwidth : 0 < s.comp.width := Nat.pos_of_mul_pos_right (Nat.zero_lt_of_lt hn)
    have hrow : n / s.comp.width < s.comp.height := Nat.div_lt_of_lt_mul hn
    have hcolumn : n % s.comp.width < s.comp.width := Nat.mod_lt _ hwidth
    rw [State.pixelOut_of_lt sources hn, State.picture_eq]
    have hblock := getElem?_flatMap_block (size := s.comp.width)
      (f := fun v : Nat => (List.range s.comp.width).map fun u : Nat => s.pixelAt sources u v) (fun v => by simp)
      (List.range s.comp.height) (n / s.comp.width) hcolumn
    rw [Nat.div_add_mod] at hblock
    refine hblock.trans ?_
    simp [hrow, hcolumn]
  · rw [State.pixelOut_of_le sources hn, List.getElem?_eq_none]
    rw [State.length_picture]
    exact hn

end Sys2Proof.Machine

namespace Sys2Proof.Proofs

open Sys2Proof Sys2Proof.Machine

/-- Settles O41: the bits on the pair, and the picture of a frame. -/
theorem pairBitsAndPicture : Obligations.PairBitsAndPicture := by
  refine ⟨fun s => ⟨State.pairBit_of_silent, State.pairBit_of_over, fun hinv hbit => ?_, fun i j b hsending hb hj hlow hhigh => ?_⟩,
    fun sources s => ⟨s.length_picture sources, fun n => ⟨decide_eq_true_iff, State.pixelOut_of_lt sources, State.pixelOut_of_le sources,
      s.getElem?_picture sources n, fun m => ?_⟩⟩, fun reg bytes s => ⟨effect (.configWrite reg bytes) s, rfl, ?_⟩⟩
  · have hsending : s.bus.sending = true := by
      by_contra h
      rw [State.pairBit_of_silent (Bool.eq_false_iff.2 h)] at hbit
      exact absurd hbit nofun
    have htransmits := hinv.sending hsending
    revert htransmits
    cases s.ctl.state <;> simp [transmits]
  · have hplace : 10 * s.bus.sendElapsed / 64 = 10 * i + j :=
      Nat.div_eq_of_lt_le (by rw [Nat.mul_comm]; exact hlow) (by rw [Nat.mul_comm _ 64]; exact hhigh)
    rw [State.pairBit_of_sending hsending, hplace]
    refine (getElem?_flatMap_block length_byteFrame _ i hj).trans ?_
    rw [hb]
    exact getElem?_byteFrame b hj
  · rw [State.pictureCut, List.getElem?_take, s.getElem?_picture sources m]
  · exact (State.takeConfig_keeps reg _ _).2.2.2.2.2.2.2.2.2.2.1

end Sys2Proof.Proofs

/-! SUPPORT. The submission unit: the four conditions and their reasons, the stage and the record it holds (R65 to R67, R178, R191). -/

namespace Sys2Proof.Machine

/-! ### The four conditions (R66, R67) -/

theorem submits_iff (st : StationState) : submits st = true ↔ st = .member ∨ st = .joining ∨ st = .loopback := by
  cases st <;> simp [submits]

section
variable {s : State} {c : Option Change} {x : Change}

theorem State.refusalOf_state (h : ¬(s.ctl.state = .member ∨ s.ctl.state = .joining ∨ s.ctl.state = .loopback)) : s.refusalOf c = .state :=
  if_pos (Bool.eq_false_iff.2 fun h' => h ((submits_iff _).1 h'))

theorem State.refusalOf_taken (h : s.ctl.state = .member ∨ s.ctl.state = .joining ∨ s.ctl.state = .loopback) :
    s.refusalOf c =
      if (c.any fun c => changeValid s.geometry c) = false then .invalid
      else if 8 ≤ s.sub.outbound.length then .queueFull else if s.credits = 0 then .noCredit else .none :=
  if_neg (by rw [(submits_iff _).2 h]; exact nofun)

theorem State.refusalOf_invalid (h : s.ctl.state = .member ∨ s.ctl.state = .joining ∨ s.ctl.state = .loopback)
    (hc : ¬∃ x, c = some x ∧ changeValid s.geometry x = true) : s.refusalOf c = .invalid := by
  rw [State.refusalOf_taken h]
  refine if_pos ?_
  cases c with
  | none => rfl
  | some x => exact Bool.eq_false_iff.2 fun hx => hc ⟨x, rfl, hx⟩

/-- A valid record in a state that takes it is refused for room or for credit, or taken. -/
theorem State.refusalOf_valid (h : s.ctl.state = .member ∨ s.ctl.state = .joining ∨ s.ctl.state = .loopback)
    (hx : changeValid s.geometry x = true) :
    s.refusalOf (some x) = if 8 ≤ s.sub.outbound.length then .queueFull else if s.credits = 0 then .noCredit else .none := by
  rw [State.refusalOf_taken h]
  exact if_neg (by rw [Option.any_some, hx]; exact nofun)

theorem State.refusalOf_full (h : s.ctl.state = .member ∨ s.ctl.state = .joining ∨ s.ctl.state = .loopback)
    (hx : changeValid s.geometry x = true) (hfull : 8 ≤ s.sub.outbound.length) : s.refusalOf (some x) = .queueFull :=
  (State.refusalOf_valid h hx).trans (if_pos hfull)

theorem State.refusalOf_noCredit (h : s.ctl.state = .member ∨ s.ctl.state = .joining ∨ s.ctl.state = .loopback)
    (hx : changeValid s.geometry x = true) (hroom : s.sub.outbound.length < 8) (hcredit : s.credits = 0) :
    s.refusalOf (some x) = .noCredit :=
  ((State.refusalOf_valid h hx).trans (if_neg (by omega))).trans (if_pos hcredit)

theorem State.refusalOf_accepted (h : s.ctl.state = .member ∨ s.ctl.state = .joining ∨ s.ctl.state = .loopback)
    (hx : changeValid s.geometry x = true) (hroom : s.sub.outbound.length < 8) (hcredit : 0 < s.credits) :
    s.refusalOf (some x) = .none :=
  ((State.refusalOf_valid h hx).trans (if_neg (by omega))).trans (if_neg hcredit.ne')

theorem State.submit_accepted {path : RefusalPath} (h : s.refusalOf (some x) = .none) :
    s.submit (some x) path = { s with sub.outbound := s.sub.outbound ++ [⟨x, .waiting⟩] } := by
  simp only [State.submit, h]

theorem State.submit_refused {path : RefusalPath} {reason : RefusalReason} (h : s.refusalOf c = reason) (hreason : reason ≠ .none) :
    s.submit c path = { s with sub.refused := true, sub.refusalReason := reason, sub.refusalPath := path } := by
  subst h
  unfold State.submit
  split
  · next hnone => exact absurd hnone hreason
  · rfl

end

/-! ### The stage (R65, R178) -/

theorem State.storeStage_eq (k : Nat) (value : Byte) (s : State) :
    s.storeStage k value = { s with sub.stage := (s.storeStage k value).sub.stage } := by
  unfold State.storeStage
  split <;> rfl

theorem State.storeStage_stage (k : Nat) (value : Byte) (s : State) (i : Fin 14) :
    (s.storeStage k value).sub.stage[i] = if i.val = k then value else s.sub.stage[i] := by
  have hi := i.isLt
  unfold State.storeStage
  split
  · simp [Vector.getElem_set, eq_comm]
  · rw [if_neg (by omega)]

/-! ### The record the stage holds (R191) -/

theorem highNibble_eq_zero_iff (b : Byte) : highNibble b = 0 ↔ b.toNat < 16 := by
  revert b
  decide

theorem toNat_bytes24 (a b c : Byte) : (c ++ (b ++ a)).toNat = a.toNat + 256 * b.toNat + 65536 * c.toNat := by
  have ha := a.isLt
  have hb := b.isLt
  rw [BitVec.toNat_append, BitVec.toNat_append, ← Nat.shiftLeft_add_eq_or_of_lt ha, ← Nat.shiftLeft_add_eq_or_of_lt (by
    rw [Nat.shiftLeft_eq]; omega), Nat.shiftLeft_eq, Nat.shiftLeft_eq]
  omega

/-- The low pan of the three pan bytes of the stage. -/
theorem toNat_panX (a b c : Byte) : (((c ++ (b ++ a)).extractLsb' 0 12).setWidth 16).toNat = a.toNat + 256 * (b.toNat % 16) := by
  have ha := a.isLt
  rw [BitVec.toNat_setWidth, BitVec.extractLsb'_toNat, toNat_bytes24, Nat.shiftRight_zero]
  omega

/-- The high pan of the three pan bytes of the stage. -/
theorem toNat_panY (a b c : Byte) : (((c ++ (b ++ a)).extractLsb' 12 12).setWidth 16).toNat = b.toNat / 16 + 16 * c.toNat := by
  have ha := a.isLt
  have hb := b.isLt
  have hc := c.isLt
  rw [BitVec.toNat_setWidth, BitVec.extractLsb'_toNat, toNat_bytes24, Nat.shiftRight_eq_div_pow]
  omega

section
variable {t : Vector Byte 14}

theorem stagedChange_windowAbsent (h : t[0] = 5) (hid : t[1].toNat < 16) : stagedChange t = some (.windowAbsent (t[1].extractLsb' 0 4)) := by
  unfold stagedChange
  rw [h]
  exact if_pos ((highNibble_eq_zero_iff _).2 hid)

theorem stagedChange_windowPresent (h : t[0] = 5) (hid : 16 ≤ t[1].toNat) :
    stagedChange t =
      some (.windowPresent (t[1].extractLsb' 0 4) (t[1].extractLsb' 4 4)
        ⟨t[2].extractLsb' 0 4, t[2].extractLsb' 4 4, t[4] ++ t[3], t[6] ++ t[5], t[8] ++ t[7], t[10] ++ t[9],
          ((t[13] ++ (t[12] ++ t[11])).extractLsb' 0 12).setWidth 16, ((t[13] ++ (t[12] ++ t[11])).extractLsb' 12 12).setWidth 16⟩) := by
  unfold stagedChange
  rw [h]
  exact if_neg fun h' => absurd ((highNibble_eq_zero_iff _).1 h') (by omega)

theorem stagedChange_none (h : t[0] = 0 ∨ 8 ≤ t[0].toNat) : stagedChange t = none := by
  have hcode : t[0].toNat = 0 ∨ 8 ≤ t[0].toNat := h.imp (fun h => by rw [h]; rfl) id
  unfold stagedChange
  split
  case h_8 => rfl
  all_goals omega

end

end Sys2Proof.Machine

namespace Sys2Proof.Proofs

open Sys2Proof Sys2Proof.Machine

/-- Settles O42: SUBMIT with its refusals, the stage bytes, and the record that the stage holds. -/
theorem submitAndStage : Obligations.SubmitAndStage := by
  refine ⟨fun s => ?_, fun reg n value s => ?_, fun t => ⟨fun h => ?_, fun h => ?_, fun h => ?_, fun h => ?_, stagedChange_windowAbsent,
    fun h hid => ?_, fun h => ?_, fun h => ?_, stagedChange_none⟩⟩
  · intro c taken valid refusedWith
    have hrefused {reason : RefusalReason} (h : s.refusalOf c = reason) (hreason : reason ≠ .none) : refusedWith reason :=
      congrArg Host.Outcome.next (State.submit_refused (s := s.portWrite 0x28) h hreason)
    refine ⟨fun x htaken hx hvalid hroom hcredit => ?_, fun h => hrefused (State.refusalOf_state h) nofun,
      fun htaken hvalid => hrefused (State.refusalOf_invalid htaken hvalid) nofun, fun htaken hvalid hfull => ?_,
      fun htaken hvalid hroom hcredit => ?_⟩
    · have hok : (s.portWrite 0x28).refusalOf (some x) = .none := State.refusalOf_accepted htaken hvalid hroom hcredit
      refine congrArg Host.Outcome.next (Eq.trans ?_ (State.submit_accepted (path := .stage) hok))
      exact congrArg (fun c => (s.portWrite 0x28).submit c .stage) hx
    · obtain ⟨x, hx, hxvalid⟩ := hvalid
      exact hrefused (hx ▸ State.refusalOf_full htaken hxvalid hfull) nofun
    · obtain ⟨x, hx, hxvalid⟩ := hvalid
      exact hrefused (hx ▸ State.refusalOf_noCredit htaken hxvalid hroom hcredit) nofun
  · refine ⟨(s.portWriteAt (indexOf (.stage reg)) (n + 1)).storeStage (reg.val + n) value, rfl, fun k => ?_, ?_⟩
    · exact State.storeStage_stage _ _ _ k
    · rw [State.storeStage_eq]
      rfl
  · unfold stagedChange; rw [h]; rfl
  · unfold stagedChange; rw [h]; rfl
  · unfold stagedChange; rw [h]; rfl
  · refine ⟨#v[t[2], t[3], t[4], t[5], t[6], t[7], t[8], t[9]], by unfold stagedChange; rw [h]; rfl, fun j => ?_⟩
    fin_cases j <;> rfl
  · exact ⟨_, stagedChange_windowPresent h hid, rfl, rfl, rfl, rfl, rfl, rfl, toNat_panX _ _ _, toNat_panY _ _ _⟩
  · unfold stagedChange; rw [h]; rfl
  · unfold stagedChange; rw [h]; rfl

end Sys2Proof.Proofs

/-! SUPPORT. The holding registers: the palette's two sides and the cursor row builder (R68 to R71). -/

namespace Sys2Proof.Machine

section
variable {s : State} {value : Byte}

/-! ### The blue write (R68) -/

/-- The colour that the blue write completes. -/
def State.writtenColour (s : State) (value : Byte) : RGB := ⟨s.sub.palWrite.held.r, s.sub.palWrite.held.g, value⟩

theorem State.paletteWrite_red (h : s.sub.palWrite.pointer = .red) :
    s.paletteWrite value = { s with sub.palWrite := ⟨s.sub.palWrite.index, .green, { s.sub.palWrite.held with r := value }⟩ } := by
  simp only [State.paletteWrite, h]

theorem State.paletteWrite_green (h : s.sub.palWrite.pointer = .green) :
    s.paletteWrite value = { s with sub.palWrite := ⟨s.sub.palWrite.index, .blue, { s.sub.palWrite.held with g := value }⟩ } := by
  simp only [State.paletteWrite, h]

theorem State.paletteWrite_blue (h : s.sub.palWrite.pointer = .blue) : s.paletteWrite value = s.blueWrite value := by
  simp only [State.paletteWrite, h]

theorem State.paletteWrite_accepted (hpointer : s.sub.palWrite.pointer = .blue)
    (h : s.refusalOf (some (.palette s.sub.palWrite.index (s.writtenColour value))) = .none) :
    s.paletteWrite value =
      { s with
        sub.palWrite := ⟨s.sub.palWrite.index + 1, .red, s.writtenColour value⟩
        sub.outbound := s.sub.outbound ++ [⟨.palette s.sub.palWrite.index (s.writtenColour value), .waiting⟩] } := by
  have hindex : (if s.refusalOf (some (.palette s.sub.palWrite.index (s.writtenColour value))) = .none then s.sub.palWrite.index + 1
      else s.sub.palWrite.index) = s.sub.palWrite.index + 1 := if_pos h
  rw [State.paletteWrite_blue hpointer, State.blueWrite]
  refine Eq.trans (congrArg (fun i => State.submit (some (.palette s.sub.palWrite.index (s.writtenColour value))) .palette
    { s with sub.palWrite := ⟨i, .red, s.writtenColour value⟩ }) hindex) ?_
  exact State.submit_accepted (s := { s with sub.palWrite := ⟨s.sub.palWrite.index + 1, .red, s.writtenColour value⟩ }) h

theorem State.paletteWrite_refused {reason : RefusalReason} (hpointer : s.sub.palWrite.pointer = .blue)
    (h : s.refusalOf (some (.palette s.sub.palWrite.index (s.writtenColour value))) = reason) (hreason : reason ≠ .none) :
    s.paletteWrite value =
      { s with
        sub.palWrite := ⟨s.sub.palWrite.index, .red, s.writtenColour value⟩
        sub.refused := true, sub.refusalReason := reason, sub.refusalPath := .palette } := by
  have hindex : (if s.refusalOf (some (.palette s.sub.palWrite.index (s.writtenColour value))) = .none then s.sub.palWrite.index + 1
      else s.sub.palWrite.index) = s.sub.palWrite.index := if_neg (h ▸ hreason)
  rw [State.paletteWrite_blue hpointer, State.blueWrite]
  refine Eq.trans (congrArg (fun i => State.submit (some (.palette s.sub.palWrite.index (s.writtenColour value))) .palette
    { s with sub.palWrite := ⟨i, .red, s.writtenColour value⟩ }) hindex) ?_
  exact State.submit_refused (s := { s with sub.palWrite := ⟨s.sub.palWrite.index, .red, s.writtenColour value⟩ }) h hreason

/-! ### Byte 7 of a row (R70) -/

/-- The eight bytes that byte 7 completes. -/
def State.writtenRow (s : State) (value : Byte) : CursorBytes := s.sub.curWrite.held.set 7 value

/-- The record that byte 7 submits. -/
def State.rowRecord (s : State) (value : Byte) : Change := .cursorRow (BitVec.ofNat 8 s.sub.curWrite.row.val) (s.writtenRow value)

theorem rowRecord_valid (g : Geometry) : changeValid g (s.rowRecord value) = true := by
  have hrow := s.sub.curWrite.row.isLt
  refine decide_eq_true ?_
  rw [BitVec.toNat_ofNat]
  omega

theorem State.cursorWrite_last (hpointer : s.sub.curWrite.pointer = 7) :
    s.cursorWrite value =
      State.submit (some (s.rowRecord value)) .cursor
        { s with
          sub.curWrite :=
            ⟨if s.refusalOf (some (s.rowRecord value)) = .none then s.sub.curWrite.row + 1 else s.sub.curWrite.row, 0, s.writtenRow value⟩ } := by
  have hlast : ¬s.sub.curWrite.pointer.val < 7 := by rw [hpointer]; exact nofun
  have hcodes : s.sub.curWrite.held.set s.sub.curWrite.pointer value = s.writtenRow value := by
    simp only [State.writtenRow, hpointer]
    rfl
  unfold State.cursorWrite
  simp only [hcodes]
  exact if_neg hlast

theorem State.cursorWrite_accepted (hpointer : s.sub.curWrite.pointer = 7) (h : s.refusalOf (some (s.rowRecord value)) = .none) :
    s.cursorWrite value =
      { s with
        sub.curWrite := ⟨s.sub.curWrite.row + 1, 0, s.writtenRow value⟩
        sub.outbound := s.sub.outbound ++ [⟨s.rowRecord value, .waiting⟩] } := by
  rw [State.cursorWrite_last hpointer, if_pos h]
  exact State.submit_accepted (s := { s with sub.curWrite := ⟨s.sub.curWrite.row + 1, 0, s.writtenRow value⟩ }) h

theorem State.cursorWrite_refused {reason : RefusalReason} (hpointer : s.sub.curWrite.pointer = 7)
    (h : s.refusalOf (some (s.rowRecord value)) = reason) (hreason : reason ≠ .none) :
    s.cursorWrite value =
      { s with
        sub.curWrite := ⟨s.sub.curWrite.row, 0, s.writtenRow value⟩
        sub.refused := true, sub.refusalReason := reason, sub.refusalPath := .cursor } := by
  rw [State.cursorWrite_last hpointer, if_neg (h ▸ hreason)]
  exact State.submit_refused (s := { s with sub.curWrite := ⟨s.sub.curWrite.row, 0, s.writtenRow value⟩ }) h hreason

theorem State.cursorWrite_early (h : s.sub.curWrite.pointer.val < 7) :
    s.cursorWrite value =
      { s with
        sub.curWrite := ⟨s.sub.curWrite.row, s.sub.curWrite.pointer + 1, s.sub.curWrite.held.set s.sub.curWrite.pointer value⟩ } :=
  if_pos h

/-! ### The read sides (R69, R71) -/

theorem RowHolding.afterRead_early {image : Vector CursorBytes 32} {h : RowHolding} (hpointer : h.pointer.val < 7) :
    h.afterRead image = { h with pointer := h.pointer + 1 } := if_pos hpointer

theorem RowHolding.afterRead_last {image : Vector CursorBytes 32} {h : RowHolding} (hpointer : h.pointer = 7) :
    h.afterRead image = ⟨h.row + 1, 0, image[h.row + 1]⟩ := if_neg (by rw [hpointer]; exact nofun)

theorem effect_palDataRead (s : State) :
    effect .palDataRead s =
      { s.portRead 0x31 s.sub.palRead.current with sub.palRead := s.sub.palRead.afterRead s.obj.palette } := rfl

theorem effect_cursorDataRead (s : State) :
    effect .cursorDataRead s =
      { s.portRead 0x34 s.sub.curRead.held[s.sub.curRead.pointer] with sub.curRead := s.sub.curRead.afterRead s.obj.image } := rfl

end

end Sys2Proof.Machine

namespace Sys2Proof.Proofs

open Sys2Proof Sys2Proof.Machine

/-- Settles O43: the palette's holding registers and the cursor row builder. -/
theorem holdingRegisters : Obligations.HoldingRegisters := by
  refine ⟨⟨fun value s => ⟨rfl, fun hred => ?_, fun hgreen => ?_, fun hblue => ?_⟩,
    fun value s => ⟨rfl, fun hred => ?_, fun hgreen => ?_, fun hblue => ?_⟩⟩,
    fun value s => ⟨fun row hrow => ?_, fun h => ?_, fun hlast htaken hroom hcredit => ?_, fun hlast => ?_, fun h => ?_, fun hlast => ?_⟩⟩
  · exact congrArg Host.Outcome.next (State.paletteWrite_red (s := s.portWrite 0x31) hred)
  · exact congrArg Host.Outcome.next (State.paletteWrite_green (s := s.portWrite 0x31) hgreen)
  · intro colour
    refine ⟨fun htaken hroom hcredit => ?_, ?_⟩
    · exact congrArg Host.Outcome.next (State.paletteWrite_accepted (s := s.portWrite 0x31) hblue
        (State.refusalOf_accepted htaken rfl hroom hcredit))
    · intro taken refusedWith
      have hrefused {reason : RefusalReason} (h : s.refusalOf (some (.palette s.sub.palWrite.index colour)) = reason)
          (hreason : reason ≠ .none) : refusedWith reason :=
        congrArg Host.Outcome.next (State.paletteWrite_refused (s := s.portWrite 0x31) hblue h hreason)
      exact ⟨fun h => hrefused (State.refusalOf_state h) nofun, fun htaken hfull => hrefused (State.refusalOf_full htaken rfl hfull) nofun,
        fun htaken hroom hcredit => hrefused (State.refusalOf_noCredit htaken rfl hroom hcredit) nofun⟩
  · refine congrArg Host.Outcome.next ((effect_palDataRead s).trans ?_)
    simp only [PaletteHolding.current, PaletteHolding.afterRead, hred]
  · refine congrArg Host.Outcome.next ((effect_palDataRead s).trans ?_)
    simp only [PaletteHolding.current, PaletteHolding.afterRead, hgreen]
  · refine congrArg Host.Outcome.next ((effect_palDataRead s).trans ?_)
    simp only [PaletteHolding.current, PaletteHolding.afterRead, hblue]
  · obtain rfl : row = rowOf value := Fin.ext hrow
    rfl
  · exact congrArg Host.Outcome.next (State.cursorWrite_early (s := s.portWrite 0x34) h)
  · exact congrArg Host.Outcome.next (State.cursorWrite_accepted (s := s.portWrite 0x34) hlast
      (State.refusalOf_accepted htaken (rowRecord_valid _) hroom hcredit))
  · intro taken refusedWith
    have hrefused {reason : RefusalReason} (h : s.refusalOf (some (s.rowRecord value)) = reason)
        (hreason : reason ≠ .none) : refusedWith reason :=
      congrArg Host.Outcome.next (State.cursorWrite_refused (s := s.portWrite 0x34) hlast h hreason)
    exact ⟨fun h => hrefused (State.refusalOf_state h) nofun,
      fun htaken hfull => hrefused (State.refusalOf_full htaken (rowRecord_valid _) hfull) nofun,
      fun htaken hroom hcredit => hrefused (State.refusalOf_noCredit htaken (rowRecord_valid _) hroom hcredit) nofun⟩
  · refine congrArg Host.Outcome.next ((effect_cursorDataRead s).trans ?_)
    rw [RowHolding.afterRead_early h]
  · refine congrArg Host.Outcome.next ((effect_cursorDataRead s).trans ?_)
    have hbyte : s.sub.curRead.held[s.sub.curRead.pointer] = s.sub.curRead.held[7] := by simp only [hlast]; rfl
    rw [RowHolding.afterRead_last hlast, hbyte]

end Sys2Proof.Proofs

/-! SUPPORT. The bytes each register returns and their number, and the data bytes of a read transaction (R178, Table 13-8). -/

namespace Sys2Proof.Machine

/-! ### The bytes of flags (Table 13-7) -/

theorem bitsByte_two : ∀ a b : Bool, bitsByte [a, b] = flagByte a ||| (flagByte b <<< 1) := by decide

theorem bitsByte_four : ∀ a b c d : Bool,
    bitsByte [a, b, c, d] = flagByte a ||| (flagByte b <<< 1) ||| (flagByte c <<< 2) ||| (flagByte d <<< 3) := by decide

theorem bitsByte_five : ∀ a b c d e : Bool,
    bitsByte [a, b, c, d, e] =
      flagByte a ||| (flagByte b <<< 1) ||| (flagByte c <<< 2) ||| (flagByte d <<< 3) ||| (flagByte e <<< 4) := by decide

theorem bitsByte_six : ∀ a b c d e f : Bool,
    bitsByte [a, b, c, d, e, f] =
      flagByte a ||| (flagByte b <<< 1) ||| (flagByte c <<< 2) ||| (flagByte d <<< 3) ||| (flagByte e <<< 4) ||| (flagByte f <<< 5) := by
  decide

section
variable (s : State)

/-! ### The bytes of single registers (Table 13-8) -/

/-- Byte `j` of the roster's entry `p`. -/
theorem State.rosterBytes_getElem? (p : Position) {j : Nat} (hj : j < 2) :
    s.rosterBytes[2 * p.val + j]? = [entryCode (s.entry p).state, BitVec.ofNat 8 (s.entry p).miss][j]? := by
  refine (getElem?_flatMap_block (size := 2) (fun _ => rfl) (List.finRange 16) p.val hj).trans ?_
  simp

theorem State.windowsBytes_getElem? (i : Fin 8) {j : Nat} (hj : j < 16) :
    (s.registerBytes .windowsLive)[16 * i.val + j]? = (windowEntryBytes s.obj.windows[i])[j]? := by
  refine (getElem?_flatMap_block windowEntryBytes_length s.obj.windows.toList i.val hj).trans ?_
  simp

/-- Outside COLLECTING the collection's fields read 0, and so does E_lost while it is invalid (R147). -/
theorem State.snapshotStatusBytes_eq :
    s.snapshotStatusBytes =
      [flagByte s.snap.streaming] ++ halfBytes (if s.snap.streaming then s.snap.streamFrame else 0) ++
        [BitVec.ofNat 8 s.snap.nextPart, collectionCode s.snap.coll] ++
        halfBytes (if s.snap.coll = .collecting then s.snap.collFrame else 0) ++
        [if s.snap.coll = .collecting then BitVec.ofNat 8 s.snap.collSource.val else 0,
          if s.snap.coll = .collecting then BitVec.ofNat 8 s.snap.nextExpected else 0] ++
        (match s.snap.eLost with
        | none => [0, 0, 0]
        | some e => 1 :: halfBytes e) := by
  unfold State.snapshotStatusBytes
  by_cases hcoll : s.snap.coll = .collecting <;> cases hlost : s.snap.eLost <;>
    simp [hcoll, halfBytes, flagByte]

theorem State.composeStatusBytes_eq :
    s.composeStatusBytes =
      [flagByte s.comp.showing, flagByte s.comp.hidden, BitVec.ofNat 8 s.comp.views.length] ++
        ((s.comp.views.map fun (v : View) => BitVec.ofNat 8 v.id.val) ++ [0, 0, 0, 0]).take 4 ++
        [BitVec.ofNat 8 s.comp.qualifying, flagByte s.comp.overflow ||| (flagByte s.comp.cursorOnTile <<< 1)] ++
        (match s.comp.placement with
        | none => [0, 0, 0, 0, 0, 0, 0, 0, 0]
        | some p => [1] ++ intHalf p.startX ++ intHalf p.startY ++ [BitVec.ofInt 8 p.presetX, BitVec.ofInt 8 p.presetY,
            BitVec.ofInt 8 p.extentW, BitVec.ofInt 8 p.extentH]) := by
  unfold State.composeStatusBytes
  rw [bitsByte_two]
  cases s.comp.placement <;> rfl

theorem State.serviceStatusBytes_eq :
    s.serviceStatusBytes =
      [flagByte s.svc.presence.value ||| (flagByte s.svc.latch.value <<< 1) ||| (flagByte s.svc.button.value <<< 2) |||
          (flagByte s.svc.pgood <<< 3),
        flagByte s.svc.request, powerCode s.svc.power, flagByte s.svc.powerTimer.isSome, ledCode s.svc.led, flagByte s.svc.follow,
        serviceCommandCode s.svc.command, serviceOutcomeCode s.svc.outcome] := by
  simp only [State.serviceStatusBytes, bitsByte_four]

theorem showArgByte_eq (st : ShowState) :
    showArgByte st =
      match st with
      | .stopped .blank => 1
      | .paced n => BitVec.ofNat 8 n
      | _ => 0 := by
  cases st with
  | stopped m => cases m <;> rfl
  | _ => rfl

/-! ### The number of bytes -/

theorem length_placementBytes (p : Option Placement) : (placementBytes p).length = 9 := by
  cases p <;> rfl

theorem State.length_composeStatusBytes : s.composeStatusBytes.length = 18 := by
  unfold State.composeStatusBytes
  rw [List.length_append, List.length_append, List.length_append, length_placementBytes, List.length_take]
  simp

theorem State.length_registerBytes {r : Register} (hstage : ∀ k, r ≠ .stage k) : (s.registerBytes r).length = widthOf r := by
  cases r with
  | roster => exact length_flatMap_block (size := 2) (fun _ => rfl) _
  | scheduleStatus =>
    change (s.scheduleStatusBytes).length = 4
    unfold State.scheduleStatusBytes
    cases s.sched.list <;> rfl
  | composeStatus => exact s.length_composeStatusBytes
  | windowsLive =>
    refine (length_flatMap_block windowEntryBytes_length _).trans ?_
    simp [widthOf]
  | receipt =>
    change (s.receiptRegister).length = 5
    unfold State.receiptRegister
    cases s.sub.receipts <;> rfl
  | config reg => cases reg <;> rfl
  | stage k => exact absurd rfl (hstage k)
  | _ => rfl

/-! ### The data bytes of a read transaction (R177, R178) -/

variable {s} {index : BitVec 7} {n : Nat}

theorem readsEachByte_iff : readsEachByte index = true ↔ index = 0x31 ∨ index = 0x34 := by
  simp [readsEachByte, indexOf]

theorem readsEachByte_of_register {r : Register} (h : registerAt index = some r) (hpal : r ≠ .palData) (hcursor : r ≠ .cursorData) :
    readsEachByte index = false := by
  rw [← Bool.not_eq_true, readsEachByte_iff]
  rintro (rfl | rfl)
  · exact hpal (Option.some.inj h).symm
  · exact hcursor (Option.some.inj h).symm

theorem index_of_palData : ∀ index : BitVec 7, registerAt index = some .palData → index = 0x31 := by decide

theorem index_of_cursorData : ∀ index : BitVec 7, registerAt index = some .cursorData → index = 0x34 := by decide

theorem readDataByte_of_none (h : registerAt index = none) : readDataByte index s n = 0 := by
  simp [readDataByte, State.readBytes, h]

/-- A STAGE transaction goes on to the next stage bytes. -/
theorem readDataByte_stage {k : Fin 14} (h : registerAt index = some (.stage k)) :
    readDataByte index s n = s.sub.stage[k.val + n]?.getD 0 := by
  have heach := readsEachByte_of_register h nofun nofun
  simp [readDataByte, State.readBytes, h, heach, List.getD_eq_getElem?_getD]

theorem readDataByte_register {r : Register} (h : registerAt index = some r) (hpal : r ≠ .palData) (hcursor : r ≠ .cursorData)
    (hstage : ∀ k, r ≠ .stage k) : readDataByte index s n = (s.registerBytes r).getD n 0 := by
  have heach := readsEachByte_of_register h hpal hcursor
  have hbytes : s.readBytes index = s.registerBytes r := by
    unfold State.readBytes
    rw [h]
    cases r with
    | stage k => exact absurd rfl (hstage k)
    | _ => rfl
  simp [readDataByte, hbytes, heach]

end

end Sys2Proof.Machine

namespace Sys2Proof.Proofs

open Sys2Proof Sys2Proof.Machine

/-- Settles O48: what each register returns, the codes, and the data bytes of a read transaction. -/
theorem statusRegistersReturnState : Obligations.StatusRegistersReturnState := by
  refine ⟨fun s => ?_, ?_, fun s index n => ⟨readDataByte_of_none, fun k => readDataByte_stage, fun h => ?_, fun h => ?_,
    fun r h hpal hcursor hstage => ?_⟩⟩
  · intro half bit num int colour collecting
    refine ⟨rfl, rfl, rfl, rfl, fun p => ⟨s.rosterBytes_getElem? p (j := 0) (by omega), s.rosterBytes_getElem? p (j := 1) (by omega)⟩, rfl,
      ?_, ?_, ?_, ?_, rfl, rfl, fun i j hj => ?_, rfl, rfl, rfl, rfl, rfl, rfl, rfl, rfl, rfl, rfl, rfl, rfl, rfl, rfl, ?_, ?_, ?_, ?_⟩
    · exact s.snapshotStatusBytes_eq
    · exact s.composeStatusBytes_eq
    · exact s.serviceStatusBytes_eq
    · exact congrArg (fun b => [_, b, _, _]) (showArgByte_eq s.shows.state)
    · refine (s.windowsBytes_getElem? i hj).trans ?_
      cases s.obj.windows[i] <;> rfl
    · exact congrArg (fun b => [b]) (bitsByte_six _ _ _ _ _ _)
    · exact congrArg (fun b => [b]) (bitsByte_six _ _ _ _ _ _)
    · exact congrArg (fun b => [b]) (bitsByte_four _ _ _ _)
    · exact congrArg (fun b => [b]) (bitsByte_five _ _ _ _ _)
  · exact ⟨⟨rfl, rfl, rfl, rfl, rfl, rfl, rfl⟩, ⟨rfl, rfl, rfl, rfl, rfl⟩, ⟨rfl, rfl, rfl⟩, ⟨rfl, rfl, rfl, rfl, rfl⟩, ⟨rfl, rfl, rfl, rfl⟩,
      ⟨rfl, rfl, rfl⟩, ⟨rfl, rfl, rfl, rfl, rfl, rfl, rfl⟩, ⟨rfl, rfl, rfl, rfl, rfl, rfl, rfl, rfl, rfl⟩,
      fun _ _ => ⟨rfl, rfl, rfl, rfl⟩, ⟨rfl, rfl, rfl⟩, ⟨rfl, rfl, rfl, rfl, rfl⟩, ⟨rfl, rfl, rfl⟩, ⟨rfl, rfl, rfl⟩,
      ⟨rfl, rfl, rfl, rfl, rfl, rfl⟩, rfl, rfl, rfl, rfl, rfl, rfl, rfl⟩
  · obtain rfl := index_of_palData index h
    rfl
  · obtain rfl := index_of_cursorData index h
    rfl
  · rw [readDataByte_register h hpal hcursor hstage]
    have hlength := s.length_registerBytes hstage
    refine ⟨hlength, fun hn => ?_, fun hn => List.getD_eq_default _ _ (hlength.trans_le hn)⟩
    rw [List.getD_eq_getElem _ _ (hlength ▸ hn), List.getElem?_eq_getElem]

end Sys2Proof.Proofs

/-! SUPPORT. A transaction on the pins of the control port: the bits of a byte under way, the index byte, and the data bytes of a write and
of a read (R177). -/

namespace Sys2Proof.Machine

/-! ### The bits of a byte under way -/

section
variable {s b : State} {bits : List Bool}

/-- The first bits of a byte lie in the port once what the byte begins has been done. -/
theorem State.foldl_spiClock_begun (hsel : s.port.selected = true) (hb : s.beginByte = b) (hbsel : b.port.selected = true)
    (hshift : b.port.shift = []) (x : Bool) (hlen : (x :: bits).length < 8) :
    (x :: bits).foldl (fun u x => u.spiClock x) s = { b with port.shift := x :: bits } := by
  rw [List.length_cons] at hlen
  rw [List.foldl_cons, State.spiClock_within x s hsel (by rw [hb, hshift]; exact Nat.zero_lt_succ 6), hb, hshift,
    State.foldl_spiClock_within bits _ (by exact hbsel) (by simp) (by simp only [List.length_append, List.length_nil, List.length_singleton]; omega)]
  rfl

theorem State.foldl_spiClock_selected (hsel : s.port.selected = true) (hb : s.beginByte = b) (hbsel : b.port.selected = true)
    (hshift : b.port.shift = []) (hlen : bits.length < 8) : (bits.foldl (fun u x => u.spiClock x) s).port.selected = true := by
  cases bits with
  | nil => exact hsel
  | cons x bits =>
    rw [State.foldl_spiClock_begun hsel hb hbsel hshift x hlen]
    exact hbsel

theorem State.foldl_spiClock_beginByte (hsel : s.port.selected = true) (hb : s.beginByte = b) (hbsel : b.port.selected = true)
    (hshift : b.port.shift = []) (hlen : bits.length < 8) :
    (bits.foldl (fun u x => u.spiClock x) s).beginByte = { b with port.shift := bits } := by
  cases bits with
  | nil =>
    refine hb.trans ?_
    rw [← hshift]
  | cons x bits =>
    rw [State.foldl_spiClock_begun hsel hb hbsel hshift x hlen]
    exact State.beginByte_of_shift _ nofun

/-- The rise of SPI_CS_N discards a byte cut off (R177). -/
theorem State.foldl_spiClock_end (hsel : s.port.selected = true) (hb : s.beginByte = b) (hbsel : b.port.selected = true)
    (hshift : b.port.shift = []) (hlen : bits.length < 8) (hend : exec .spiTransactionEnd b = exec .spiTransactionEnd s) :
    exec .spiTransactionEnd (bits.foldl (fun u x => u.spiClock x) s) = exec .spiTransactionEnd s := by
  cases bits with
  | nil => rfl
  | cons x bits =>
    rw [State.foldl_spiClock_begun hsel hb hbsel hshift x hlen]
    exact hend

/-- What SPI_MISO shows while a byte is under way. -/
theorem State.foldl_spiClock_miso (hsel : s.port.selected = true) (hb : s.beginByte = b) (hbsel : b.port.selected = true)
    (hshift : b.port.shift = []) (hlen : bits.length < 8) {t : Transaction} (ht : b.port.transaction = some t) :
    (bits.foldl (fun u x => u.spiClock x) s).miso = some (t.read && (b.port.outByte t).getMsbD bits.length) := by
  have hselected := State.foldl_spiClock_selected hsel hb hbsel hshift hlen
  unfold State.miso
  rw [if_pos hselected, State.foldl_spiClock_beginByte hsel hb hbsel hshift hlen]
  simp only [ht]
  rfl

theorem State.beginByte_of_none (h : s.port.transaction = none) : s.beginByte = s := by
  simp only [State.beginByte, h]

theorem State.beginByte_of_transaction {t : Transaction} (h : s.port.transaction = some t)
    (ht : t.read = false ∨ t.count ≠ s.port.data.length) : s.beginByte = s := by
  simp only [State.beginByte, h]
  refine if_neg ?_
  rintro ⟨hread, -, hcount⟩
  exact ht.elim (fun h => by rw [h] at hread; exact absurd hread nofun) (· hcount)

theorem State.miso_of_not_selected (h : s.port.selected = false) : s.miso = none := if_neg (by rw [h]; exact nofun)

theorem State.foldl_spiClock_of_not_selected (h : s.port.selected = false) (bits : List Bool) :
    bits.foldl (fun u x => u.spiClock x) s = s := by
  induction bits with
  | nil => rfl
  | cons x bits ih => rw [List.foldl_cons, State.spiClock_of_not_selected x s h, ih]

end

/-! ### The index byte -/

theorem takeIndex_fields : ∀ index : BitVec 7,
    ((0#1 ++ index).msb = false ∧ (0#1 ++ index).extractLsb' 0 7 = index) ∧
      ((1#1 ++ index).msb = true ∧ (1#1 ++ index).extractLsb' 0 7 = index) := by decide

theorem State.spiSelect_shift (s : State) (b : Byte) : s.spiSelect.spiShift b = s.spiSelect.takeIndex b := by
  have hbegin : s.spiSelect.beginByte = s.spiSelect := State.beginByte_of_none rfl
  rw [State.spiShift_eq b s.spiSelect rfl (by rw [hbegin]; rfl) (by rw [hbegin]; rfl), hbegin]
  rfl

/-- The port within a transaction after its index byte. -/
def portAt (read : Bool) (index : BitVec 7) (count : Nat) (data out : List Byte) : Port :=
  { selected := true, transaction := some ⟨read, index, count⟩, shift := [], data := data, out := out }

theorem State.spiShift_writeIndex (s : State) (index : BitVec 7) :
    s.spiSelect.spiShift (0#1 ++ index) = { s with port := portAt false index 0 [] [] } := by
  obtain ⟨⟨hmsb, hindex⟩, -⟩ := takeIndex_fields index
  simp only [s.spiSelect_shift, State.takeIndex, hmsb, hindex]
  rfl

theorem State.spiShift_readIndex (s : State) (index : BitVec 7) :
    s.spiSelect.spiShift (1#1 ++ index) = State.takeRead index 0 { s with port := portAt true index 0 [] [] } := by
  obtain ⟨-, hmsb, hindex⟩ := takeIndex_fields index
  simp only [s.spiSelect_shift, State.takeIndex, hmsb, hindex]
  rfl

/-! ### The data bytes of a write -/

section
variable {u : State} {index : BitVec 7} {before : List Byte} {n : Nat}

theorem State.beginByte_writing (hu : u.port = portAt false index n before []) : u.beginByte = u :=
  State.beginByte_of_transaction (t := ⟨false, index, n⟩) (by rw [hu]; rfl) (.inl rfl)

theorem State.spiShift_writing (hu : u.port = portAt false index n before []) (v : Byte) :
    u.spiShift v = { u.takeWrite index v with port.data := before ++ [v] } := by
  have hbegin := State.beginByte_writing hu
  have hsel : u.port.selected = true := by rw [hu]; rfl
  rw [State.spiShift_eq v u hsel (by rw [hbegin]; exact hsel) (by rw [hbegin, hu]; rfl), hbegin]
  simp only [State.spiByte, hu, portAt]
  rfl

theorem State.spiShift_command (hu : u.port = portAt false index n before []) {v : Byte} {c : Instr}
    (h : writeCommand index before v = some c) : u.spiShift v = { effect c u with port.data := before ++ [v] } := by
  have hdata : u.port.data = before := by rw [hu]; rfl
  have htake : u.takeWrite index v = effect c u := by
    unfold State.takeWrite
    rw [hdata, h]
  rw [State.spiShift_writing hu v, htake]

theorem State.spiShift_ignored (hu : u.port = portAt false index n before []) {v : Byte} (h : writeCommand index before v = none) :
    u.spiShift v = { u with port := portAt false index (n + 1) (before ++ [v]) [] } := by
  have hdata : u.port.data = before := by rw [hu]; rfl
  have htake : u.takeWrite index v = u.countByte := by
    unfold State.takeWrite
    rw [hdata, h]
  rw [State.spiShift_writing hu v, htake, State.countByte, hu]
  rfl

end

/-- During a write SPI_MISO drives 0, and a byte cut off is discarded. -/
theorem State.bits_writing {u : State} {index : BitVec 7} {before : List Byte} {n : Nat} (hu : u.port = portAt false index n before [])
    {bits : List Bool} (hlen : bits.length < 8) :
    (bits.foldl (fun u b => u.spiClock b) u).miso = some false ∧
      exec .spiTransactionEnd (bits.foldl (fun u b => u.spiClock b) u) = exec .spiTransactionEnd u := by
  have hbegin := State.beginByte_writing hu
  have hsel : u.port.selected = true := by rw [hu]; rfl
  have hshift : u.port.shift = [] := by rw [hu]; rfl
  have htransaction : u.port.transaction = some ⟨false, index, n⟩ := by rw [hu]; rfl
  exact ⟨State.foldl_spiClock_miso hsel hbegin hsel hshift hlen htransaction, State.foldl_spiClock_end hsel hbegin hsel hshift hlen rfl⟩

/-! ### The data bytes of a read -/

theorem readCommand_later_of_not_each {index : BitVec 7} (h : readsEachByte index = false) {n : Nat} (hn : 0 < n) :
    readCommand index n = none := by
  have hne : ¬(index = 0x31 ∨ index = 0x34) := fun h' => by rw [readsEachByte_iff.2 h'] at h; exact absurd h nofun
  exact readCommand_later index (fun h => hne (.inl h)) (fun h => hne (.inr h)) n hn

/-- The indices whose first read is a command of its own. -/
theorem index_of_readCommand : ∀ index : BitVec 7,
    index.toNat ∈ [0x05, 0x11, 0x12, 0x13, 0x14, 0x18, 0x19, 0x1A, 0x2A, 0x31, 0x34] →
      index ∈ [0x05#7, 0x11#7, 0x12#7, 0x13#7, 0x14#7, 0x18#7, 0x19#7, 0x1A#7, 0x2A#7, 0x31#7, 0x34#7] := by decide

theorem State.takeRead_none {index : BitVec 7} (s : State) (h : readCommand index 0 = none) :
    s.takeRead index 0 = s.portReadWhole index (s.readBytes index) := by
  simp only [State.takeRead, h, if_true]

theorem State.takeRead_some {index : BitVec 7} {c : Instr} {n : Nat} (s : State) (h : readCommand index n = some c) :
    s.takeRead index n = effect c s := by
  simp only [State.takeRead, h]

/-- The first read of a transaction leaves in the port the bytes it returns. -/
theorem State.takeRead_port (s : State) (index : BitVec 7) :
    (State.takeRead index 0 { s with port := portAt true index 0 [] [] }).port = portAt true index 1 [] (s.readBytes index) := by
  by_cases hcommand : index.toNat ∈ [0x05, 0x11, 0x12, 0x13, 0x14, 0x18, 0x19, 0x1A, 0x2A, 0x31, 0x34]
  · have hindex := index_of_readCommand index hcommand
    simp only [List.mem_cons, List.not_mem_nil, or_false] at hindex
    rcases hindex with rfl | rfl | rfl | rfl | rfl | rfl | rfl | rfl | rfl | rfl | rfl <;> rfl
  · rw [State.takeRead_none _ (readCommand_zero_of_not_mem index hcommand)]
    rfl

section
variable {r : State} {index : BitVec 7} {data out : List Byte}

theorem State.beginByte_readFirst (hr : r.port = portAt true index 1 [] out) : r.beginByte = r :=
  State.beginByte_of_transaction (t := ⟨true, index, 1⟩) (by rw [hr]; rfl) (.inr (by rw [hr]; exact nofun))

/-- Where the data bytes are not reads of their own, each byte after the first only counts. -/
theorem State.beginByte_reading (heach : readsEachByte index = false) (hr : r.port = portAt true index (max data.length 1) data out) :
    r.beginByte = { r with port := portAt true index (data.length + 1) data out } := by
  cases data with
  | nil =>
    refine (State.beginByte_readFirst hr).trans ?_
    rw [show portAt true index (([] : List Byte).length + 1) [] out = r.port from hr.symm]
  | cons v data =>
    have hcount : max (v :: data).length 1 = (v :: data).length := max_eq_left (Nat.succ_pos _)
    rw [hcount] at hr
    have htransaction : r.port.transaction = some ⟨true, index, (v :: data).length⟩ := by rw [hr]; rfl
    have hbegin : r.beginByte = r.takeRead index (v :: data).length := by
      simp only [State.beginByte, htransaction]
      exact if_pos ⟨trivial, by rw [hr]; rfl, by rw [hr]; rfl⟩
    have htake : r.takeRead index (v :: data).length = r.countByte := by
      unfold State.takeRead
      rw [readCommand_later_of_not_each heach (show 0 < (v :: data).length from Nat.succ_pos _)]
      exact if_neg (Nat.succ_ne_zero _)
    rw [hbegin, htake, State.countByte, htransaction]
    exact congrArg (fun p : Port => { r with port := { p with transaction := some ⟨true, index, (v :: data).length + 1⟩ } }) hr

theorem State.spiShift_reading (heach : readsEachByte index = false) (hr : r.port = portAt true index (max data.length 1) data out)
    (v : Byte) : r.spiShift v = { r with port := portAt true index (data.length + 1) (data ++ [v]) out } := by
  have hbegin := State.beginByte_reading heach hr
  rw [State.spiShift_eq v r (by rw [hr]; rfl) (by rw [hbegin]; rfl) (by rw [hbegin]; rfl), hbegin]
  rfl

theorem State.foldl_spiShift_reading (heach : readsEachByte index = false) (bytes : List Byte)
    (hr : r.port = portAt true index (max data.length 1) data out) :
    bytes.foldl (fun u b => u.spiShift b) r =
      { r with port := portAt true index (max (data ++ bytes).length 1) (data ++ bytes) out } := by
  induction bytes generalizing r data with
  | nil =>
    rw [List.append_nil, ← hr]
    rfl
  | cons v bytes ih =>
    have hcount : data.length + 1 = max (data ++ [v]).length 1 := by simp
    rw [List.foldl_cons, State.spiShift_reading heach hr v, hcount, ih (data := data ++ [v]) rfl, List.append_assoc]
    rfl

/-- The byte that a read returns while its data byte `n` is under way. -/
theorem outByte_readBytes (s : State) (index : BitVec 7) (n : Nat) (data : List Byte) :
    (portAt true index (n + 1) data (s.readBytes index)).outByte ⟨true, index, n + 1⟩ = readDataByte index s n := rfl

theorem State.bits_readFirst {s : State} (hr : r.port = portAt true index 1 [] (s.readBytes index)) {bits : List Bool}
    (hlen : bits.length < 8) :
    (bits.foldl (fun u b => u.spiClock b) r).miso = some ((readDataByte index s 0).getMsbD bits.length) := by
  have hsel : r.port.selected = true := by rw [hr]; rfl
  have hshift : r.port.shift = [] := by rw [hr]; rfl
  have htransaction : r.port.transaction = some ⟨true, index, 1⟩ := by rw [hr]; rfl
  rw [State.foldl_spiClock_miso hsel (State.beginByte_readFirst hr) hsel hshift hlen htransaction, hr, outByte_readBytes, Bool.true_and]

theorem State.bits_reading {s : State} (heach : readsEachByte index = false)
    (hr : r.port = portAt true index (max data.length 1) data (s.readBytes index)) {bits : List Bool} (hlen : bits.length < 8) :
    (bits.foldl (fun u b => u.spiClock b) r).miso = some ((readDataByte index s data.length).getMsbD bits.length) ∧
      exec .spiTransactionEnd (bits.foldl (fun u b => u.spiClock b) r) = exec .spiTransactionEnd r := by
  have hsel : r.port.selected = true := by rw [hr]; rfl
  have hbegin := State.beginByte_reading heach hr
  refine ⟨?_, State.foldl_spiClock_end hsel hbegin rfl rfl hlen rfl⟩
  rw [State.foldl_spiClock_miso hsel hbegin rfl rfl hlen rfl, outByte_readBytes, Bool.true_and]

end

end Sys2Proof.Machine

namespace Sys2Proof.Proofs

open Sys2Proof Sys2Proof.Machine

/-- Settles O50: bits, the index byte, and the data bytes of a transaction on the pins. -/
theorem spiTransactionTakesCommands : Obligations.SpiTransactionTakesCommands := by
  refine ⟨fun s => ⟨fun h => ⟨State.miso_of_not_selected h, fun b => State.spiClock_of_not_selected b s h⟩, fun pins t h => ?_,
    fun bits htransaction hshift hsel hlen => ?_⟩, fun s index v => ?_, fun s index => ?_⟩
  · cases h
    exact ⟨State.miso_of_not_selected rfl, State.foldl_spiClock_of_not_selected rfl⟩
  · exact State.foldl_spiClock_end hsel (State.beginByte_of_none htransaction) hsel hshift hlen rfl
  · intro w
    have hw : w = { s with port := portAt false index 0 [] [] } := s.spiShift_writeIndex index
    clear_value w
    have hwport : w.port = portAt false index 0 [] [] := congrArg State.port hw
    refine ⟨hw, (State.bits_writing (bits := []) hwport (by decide)).1, fun u before n hu => ⟨fun c hc => ?_, fun hc => ?_, fun bits hlen => ?_⟩⟩
    · exact ⟨effect c u, exec_eq_next c u, State.spiShift_command hu hc⟩
    · refine (State.spiShift_ignored hu hc).trans ?_
      rw [hu]
      rfl
    · exact State.bits_writing hu hlen
  · intro p r
    have hr : r = State.takeRead index 0 { s with port := portAt true index 0 [] [] } := s.spiShift_readIndex index
    have hport : r.port = portAt true index 1 [] (s.readBytes index) := hr ▸ s.takeRead_port index
    clear_value r
    refine ⟨fun c hc => ?_, fun hc => ?_, fun bits hlen => ?_, fun bytes bits heach hlen => ?_⟩
    · rw [hr, State.takeRead_some _ hc]
      exact exec_eq_next _ _
    · rw [hr, State.takeRead_none _ hc]
      rfl
    · exact State.bits_readFirst hport hlen
    · have hbytes := State.foldl_spiShift_reading (data := []) heach bytes hport
      rw [List.nil_append] at hbytes
      intro u
      have hu : u = bits.foldl (fun u b => u.spiClock b)
          { r with port := portAt true index (max bytes.length 1) bytes (s.readBytes index) } := by rw [← hbytes]
      rw [hu]
      exact State.bits_reading heach rfl hlen

end Sys2Proof.Proofs

/-! SUPPORT. What a frame start makes of the roster and of the snapshot unit (R59, R130, R131). -/

namespace Sys2Proof.Machine

/-! ### The leavers that go (R59) -/

section
variable (s : State)

theorem State.removeLeavers_roster (p : Position) :
    s.removeLeavers.roster[p] = if s.goes p = true then s.roster[p].gone else s.roster[p] := by
  obtain ⟨roster, heq, hroster⟩ := s.removeLeavers_eq
  rw [heq]
  exact hroster p

theorem State.removeLeavers_rosterChanged :
    s.removeLeavers.events.wall.rosterChanged = (s.events.wall.rosterChanged || (List.finRange 16).any s.goes) := by
  obtain ⟨roster, heq, -⟩ := s.removeLeavers_eq
  rw [heq]

@[simp] theorem State.removeLeavers_snap : s.removeLeavers.snap = s.snap := by
  obtain ⟨roster, heq, -⟩ := s.removeLeavers_eq
  rw [heq]

@[simp] theorem State.removeLeavers_frameEvents : s.removeLeavers.events.frame = s.events.frame := by
  obtain ⟨roster, heq, -⟩ := s.removeLeavers_eq
  rw [heq]

/-- Of the WALL events the removal raises ROSTER_CHANGED alone. -/
theorem State.removeLeavers_wall :
    s.removeLeavers.events.wall = { s.events.wall with rosterChanged := s.removeLeavers.events.wall.rosterChanged } := by
  obtain ⟨roster, heq, -⟩ := s.removeLeavers_eq
  rw [heq]

theorem leaveFrameCome_leaving {f : Frame} {e : Entry} (h : leaveFrameCome f e = true) : e.state = .leaving := by
  rw [leaveFrameCome, Bool.and_eq_true] at h
  exact eq_of_beq h.1

/-- The removal takes no MEMBER and no JOINING entry, and makes none. -/
theorem State.removeLeavers_state (p : Position) {st : EntryState} (hleaving : st ≠ .leaving) (habsent : st ≠ .absent) :
    s.removeLeavers.roster[p].state = st ↔ s.roster[p].state = st := by
  rw [State.removeLeavers_roster]
  by_cases hgoes : s.goes p = true
  · have hstate : s.roster[p].state = .leaving := by
      rw [State.goes, Bool.and_eq_true] at hgoes
      exact leaveFrameCome_leaving hgoes.2
    rw [if_pos hgoes, hstate]
    exact ⟨fun h => absurd h.symm habsent, fun h => absurd h.symm hleaving⟩
  · rw [if_neg hgoes]

theorem State.removeLeavers_reference : s.removeLeavers.reference = s.reference := by
  have hmember (p : Position) : ((s.removeLeavers.entry p).state == EntryState.member) = ((s.entry p).state == EntryState.member) := by
    rw [Bool.eq_iff_iff, beq_iff_eq, beq_iff_eq]
    by_cases hown : p = s.own
    · have hremoved : p = s.removeLeavers.own := hown.trans (by simp [State.own])
      rw [State.entry, if_pos hremoved, State.entry, if_pos hown, s.removeLeavers_keeps.2.2.2.2.1]
    · have hremoved : ¬p = s.removeLeavers.own := fun h => hown (h.trans (by simp [State.own]))
      rw [State.entry, if_neg hremoved, State.entry, if_neg hown]
      exact s.removeLeavers_state p nofun nofun
  exact congrArg (fun f => (List.finRange 16).find? f) (funext hmember)

/-! ### What the rest of the work leaves of the WALL events and the roster -/

@[simp] theorem State.reportObjects_wall (w c : Bool) : (s.reportObjects w c).events.wall = s.events.wall := by
  cases w <;> cases c <;> rfl

@[simp] theorem State.frameWork_wall : s.frameWork.events.wall = s.events.wall := by
  rw [State.frameWork_eq]
  split
  · exact s.applied.reportObjects_wall _ _
  · exact s.applied.reportObjects_wall _ _

/-- A change of the station state and the defaults leave the roster and ROSTER_CHANGED. -/
theorem State.countListening_roster :
    s.countListening.roster = s.roster ∧ s.countListening.events.wall.rosterChanged = s.events.wall.rosterChanged := by
  unfold State.countListening State.endListening State.found State.takeDefaults
  dsimp only
  repeat' split
  all_goals exact ⟨rfl, rfl⟩

/-- The states whose frame start removes the leavers (R59). -/
def State.removes (s : State) : Prop :=
  s.ctl.state = .member ∨ s.ctl.state = .listening ∨ s.ctl.state = .joining ∨
    (s.ctl.state = .leaving ∧ s.ctl.leaveFrame ≠ some s.timer.frame)

variable {s}

theorem State.blockWork_member (h : s.ctl.state = .member) : s.blockWork = s.removeLeavers.frameWork.startStream := by
  unfold State.blockWork
  rw [h]
  rfl

theorem State.blockWork_leaving (h : s.ctl.state = .leaving) (hleave : s.ctl.leaveFrame ≠ some s.timer.frame) :
    s.blockWork = s.removeLeavers.frameWork := by
  unfold State.blockWork
  rw [h]
  exact if_neg hleave

theorem State.blockWork_joining (h : s.ctl.state = .joining) : s.blockWork = s.joiningFrame := by
  unfold State.blockWork
  rw [h]

theorem State.blockWork_listening (h : s.ctl.state = .listening) : s.blockWork = s.joiningFrame.countListening := by
  unfold State.blockWork
  rw [h]
  rfl

theorem State.blockWork_loopback (h : s.ctl.state = .loopback) : s.blockWork = s.frameWork := by
  unfold State.blockWork
  rw [h]

theorem State.blockWork_quiet (h : s.ctl.state = .offline ∨ s.ctl.state = .fault) : s.blockWork = s.sendDeferredWord := by
  unfold State.blockWork
  rcases h with h | h <;> rw [h]

theorem State.joiningFrame_roster (p : Position) :
    s.joiningFrame.roster[p] = (if s.goes p = true then s.roster[p].gone else s.roster[p]) ∧
      s.joiningFrame.events.wall.rosterChanged = (s.events.wall.rosterChanged || (List.finRange 16).any s.goes) := by
  have hroster : s.joiningFrame.roster = s.sendDeferredWord.removeLeavers.roster := by simp [State.joiningFrame]
  have hevents : s.joiningFrame.events = s.sendDeferredWord.removeLeavers.events := by simp [State.joiningFrame]
  rw [hroster, hevents]
  exact ⟨s.sendDeferredWord.removeLeavers_roster p, s.sendDeferredWord.removeLeavers_rosterChanged⟩

theorem State.blockWork_roster (h : s.removes) (p : Position) :
    s.blockWork.roster[p] = (if s.goes p = true then s.roster[p].gone else s.roster[p]) ∧
      s.blockWork.events.wall.rosterChanged = (s.events.wall.rosterChanged || (List.finRange 16).any s.goes) := by
  have hremoved := And.intro (s.removeLeavers_roster p) s.removeLeavers_rosterChanged
  rcases h with hst | hst | hst | ⟨hst, hleave⟩
  · have hroster : s.removeLeavers.frameWork.startStream.roster = s.removeLeavers.roster := by simp
    have hwall : s.removeLeavers.frameWork.startStream.events.wall = s.removeLeavers.events.wall := by simp
    rw [State.blockWork_member hst, hroster, hwall]
    exact hremoved
  · obtain ⟨hroster, hchanged⟩ := s.joiningFrame.countListening_roster
    rw [State.blockWork_listening hst, hroster, hchanged]
    exact State.joiningFrame_roster p
  · rw [State.blockWork_joining hst]
    exact State.joiningFrame_roster p
  · have hroster : s.removeLeavers.frameWork.roster = s.removeLeavers.roster := by simp
    rw [State.blockWork_leaving hst hleave, hroster, State.frameWork_wall]
    exact hremoved

/-! ### The start of a stream (R130, R131) -/

theorem State.startsStream_iff (h : s.ctl.state = .member) :
    s.startsStream = true ↔
      s.reference = some s.own ∧ (∃ p : Position, p ≠ s.own ∧ s.roster[p].state = .joining) ∧ s.snap.streaming = false := by
  simp [State.startsStream, State.hasJoiner, h, and_assoc]

theorem State.reference_of_same {t : State} (hstraps : t.straps = s.straps) (hctl : t.ctl = s.ctl) (hroster : t.roster = s.roster) :
    t.reference = s.reference := by
  unfold State.reference State.entry State.own
  rw [hstraps, hctl, hroster]

/-- Whether a frame start in MEMBER starts a stream is known before its work. -/
theorem State.memberWork_startsStream_iff (h : s.ctl.state = .member) :
    s.removeLeavers.frameWork.startsStream = true ↔
      s.reference = some s.own ∧ (∃ p : Position, p ≠ s.own ∧ s.roster[p].state = .joining) ∧ s.snap.streaming = false := by
  have hst : s.removeLeavers.frameWork.ctl.state = .member := by simpa using h
  have href : s.removeLeavers.frameWork.reference = s.reference :=
    (State.reference_of_same (by simp) (by simp) (by simp)).trans s.removeLeavers_reference
  have hown : s.removeLeavers.frameWork.own = s.own := by simp [State.own]
  have hroster : s.removeLeavers.frameWork.roster = s.removeLeavers.roster := by simp
  have hsnap : s.removeLeavers.frameWork.snap = s.snap := by simp
  have hjoining (p : Position) : s.removeLeavers.roster[p].state = .joining ↔ s.roster[p].state = .joining :=
    s.removeLeavers_state p nofun nofun
  rw [State.startsStream_iff hst, href, hown, hsnap, hroster]
  simp only [hjoining]

theorem State.startStream_starts (h : s.startsStream = true) :
    s.startStream.snap =
      { s.snap with streaming := true, streamFrame := s.timer.frame, nextPart := 0, capture := s.captureImage } := by
  unfold State.startStream
  rw [if_pos h]

theorem State.startStream_idle (h : ¬s.startsStream = true) : s.startStream = s := if_neg h

theorem State.frameEnd_snap (s : State) : (s.evaluateOutput.openWindow 0).snap = s.snap := rfl

theorem State.frameEnd_captureImage (s : State) : (s.evaluateOutput.openWindow 0).captureImage = s.captureImage := rfl

theorem State.captureImage_startStream : s.startStream.captureImage = s.captureImage := by
  simp [State.captureImage]

end

end Sys2Proof.Machine

namespace Sys2Proof.Proofs

open Sys2Proof Sys2Proof.Machine

/-- Settles O27: the leavers of a frame start, and the start of a stream. -/
theorem leaversGoAndStreamStarts : Obligations.LeaversGoAndStreamStarts := by
  refine ⟨fun s hbetween hst => ?_, fun s hbetween hst => ?_, fun s hbetween hst => ?_⟩
  · obtain ⟨b, heffect⟩ := effect_frame_between hbetween
    have hwork := State.blockWork_roster (s := s.begun b) hst
    have hroster (p : Position) : (effect .ownFrameTimerExpiry s).roster[p] = if (s.begun b).goes p = true then s.roster[p].gone else s.roster[p] := by
      rw [heffect]
      exact (hwork p).1
    have hchanged : (effect .ownFrameTimerExpiry s).events.wall.rosterChanged =
        (s.events.wall.rosterChanged || (List.finRange 16).any (s.begun b).goes) := by
      rw [heffect]
      exact (hwork 0).2
    have hgoes (p : Position) (hp : p ≠ s.own) : (s.begun b).goes p = leaveFrameCome (s.timer.frame + 1) s.roster[p] := by
      change (decide (p ≠ s.own) && leaveFrameCome (s.timer.frame + 1) s.roster[p]) = _
      rw [decide_eq_true hp, Bool.true_and]
    refine ⟨effect .ownFrameTimerExpiry s, rfl, fun hnone => ?_, fun p hp => ⟨fun f hleaving hframe hcome => ?_, fun hstays => ?_⟩⟩
    · have hany : (List.finRange 16).any (s.begun b).goes = false := by
        rw [List.any_eq_false]
        intro p _
        by_cases hp : p = s.own
        · change ¬(decide (p ≠ s.own) && leaveFrameCome (s.timer.frame + 1) s.roster[p]) = true
          simp [hp]
        · rw [hgoes p hp, hnone p hp]
          exact nofun
      rw [hchanged, hany, Bool.or_false]
    · have hgo : (s.begun b).goes p = true := by
        rw [hgoes p hp, leaveFrameCome, hleaving, hframe, Option.any_some, hcome]
        rfl
      refine ⟨?_, ?_⟩
      · rw [hroster p, if_pos hgo]
        rfl
      · have hany : (List.finRange 16).any (s.begun b).goes = true := List.any_eq_true.2 ⟨p, List.mem_finRange p, hgo⟩
        rw [hchanged, hany, Bool.or_true]
    · have hstay : (s.begun b).goes p = false := by
        rw [hgoes p hp, leaveFrameCome]
        rcases hstays with hstate | hnone | ⟨f, hframe, hafter⟩
        · rw [beq_eq_false_iff_ne.2 hstate, Bool.false_and]
        · rw [hnone, Option.any_none, Bool.and_false]
        · rw [hframe, Option.any_some, hafter, Bool.not_true, Bool.and_false]
      rw [hroster p, hstay]
      rfl
  · obtain ⟨b, heffect⟩ := effect_frame_between hbetween
    refine ⟨effect .ownFrameTimerExpiry s, rfl, ?_⟩
    rw [heffect]
    rcases or_assoc.2 hst with hst | hst
    · rw [State.blockWork_quiet (s := s.begun b) hst]
      exact ⟨rfl, rfl⟩
    · rw [State.blockWork_loopback (s := s.begun b) hst]
      exact ⟨(s.begun b).frameWork_keeps.2.2.2.2.2.1, (s.begun b).frameWork_wall⟩
  · obtain ⟨b, heffect⟩ := effect_frame_between hbetween
    have hwork := State.blockWork_member (s := s.begun b) hst
    have hstarts := State.memberWork_startsStream_iff (s := s.begun b) hst
    have hsnap : (s.begun b).removeLeavers.frameWork.snap = s.snap := by
      rw [(s.begun b).removeLeavers.frameWork_keeps.2.2.2.2.2.2.1, State.removeLeavers_snap]
      rfl
    have hframe : (s.begun b).removeLeavers.frameWork.timer.frame = s.timer.frame + 1 := by
      rw [(s.begun b).removeLeavers.frameWork_keeps.2.2.2.1, (s.begun b).removeLeavers_keeps.2.2.2.1]
      rfl
    refine ⟨effect .ownFrameTimerExpiry s, rfl, fun href hjoiner hidle => ?_, fun hno => ?_⟩
    · have hyes := hstarts.2 ⟨href, hjoiner, hidle⟩
      rw [heffect, hwork, State.frameEnd_snap, State.frameEnd_captureImage, State.captureImage_startStream,
        State.startStream_starts hyes, hsnap, hframe]
    · have hidle : ¬(s.begun b).removeLeavers.frameWork.startsStream = true := by
        rw [hstarts]
        rintro ⟨href, ⟨p, hp, hjoining⟩, hstreaming⟩
        rcases hno with hno | hno | hno
        · exact hno href
        · exact hno p hp hjoining
        · exact absurd (hno.symm.trans hstreaming) nofun
      rw [heffect, hwork, State.frameEnd_snap, State.startStream_idle hidle, hsnap]

end Sys2Proof.Proofs

/-! SUPPORT. The frame start of LISTENING and JOINING: the drop, the aging of E_lost, the countdown and its end (R40, R41, R94, R136). -/

namespace Sys2Proof.Machine

/-! ### The aging of E_lost (R136) -/

/-- E_lost after the aging of a frame start with number `f`. -/
def agedLost (f : Frame) (lost : Option Frame) : Option Frame :=
  lost.map fun e => if 16384 ≤ (f - e).toNat ∧ (f - e).toNat ≤ 32767 then f - 1 else e

theorem isSome_agedLost (f : Frame) (lost : Option Frame) : (agedLost f lost).isSome = lost.isSome := Option.isSome_map

section
variable (s : State)

theorem State.ageELost_eq : s.ageELost = { s with snap.eLost := agedLost s.timer.frame s.snap.eLost } := by
  unfold State.ageELost
  split
  · next hnone =>
    rw [hnone, agedLost, Option.map_none, ← hnone]
  · next e hsome =>
    split
    · next hold => rw [hsome, agedLost, Option.map_some, if_pos hold]
    · next hyoung =>
      rw [hsome, agedLost, Option.map_some, if_neg hyoung, ← hsome]

theorem sendDeferred_lastWord (k : ShowControl) : (sendDeferred k).lastWord = k.deferred.getD .null := by
  simp [sendDeferred, sendWord]

/-- The UNCERTAIN receipts of the records that a bound drops. -/
theorem uncertainReceipts_filter (own : Position) (drops : HeldRecord → Bool) (l : List HeldRecord) :
    uncertainReceipts own (l.filter drops) =
      (l.filter fun r => drops r && r.origin == own).map fun r => ⟨r.seq, r.change.kind, .uncertain, some r.eff⟩ := by
  rw [uncertainReceipts, List.filter_filter]
  simp only [Bool.and_comm]
  rfl

/-! ### The work of JOINING, which is the first part of the work of LISTENING -/

theorem State.joiningFrame_snap : s.joiningFrame.snap = { s.snap with eLost := agedLost s.timer.frame s.snap.eLost } := by
  have hsnap : s.sendDeferredWord.removeLeavers.dropHeld.snap = s.snap := by
    rw [State.dropHeld_keeps _ |>.2.2.2.2.2.2.2.2.1, State.removeLeavers_snap]
    rfl
  have htimer : s.sendDeferredWord.removeLeavers.dropHeld.timer = s.timer := by simp [State.sendDeferredWord]
  unfold State.joiningFrame
  rw [State.ageELost_eq]
  simp only [hsnap, htimer]

theorem State.joiningFrame_dropBoundNow : s.sendDeferredWord.removeLeavers.dropBoundNow = s.dropBoundNow := by
  have hsnap : s.sendDeferredWord.removeLeavers.snap = s.snap := State.removeLeavers_snap _
  have htimer : s.sendDeferredWord.removeLeavers.timer = s.timer := by simp [State.sendDeferredWord]
  rw [State.dropBoundNow, State.dropBoundNow, hsnap, htimer]

theorem State.joiningFrame_sched :
    s.joiningFrame.sched =
      { s.sched with
        list := s.sched.list.filter fun r => frameAfter r.eff s.dropBoundNow
        dropBound := some s.dropBoundNow } := by
  have hsched : s.sendDeferredWord.removeLeavers.sched = s.sched := by simp [State.sendDeferredWord]
  have haged : s.joiningFrame.sched = s.sendDeferredWord.removeLeavers.dropHeld.sched := by simp [State.joiningFrame]
  rw [haged, State.dropHeld]
  simp only [State.dropUpTo, s.joiningFrame_dropBoundNow, hsched]

theorem State.joiningFrame_sub :
    s.joiningFrame.sub =
      { s.sub with
        receipts := s.sub.receipts ++ uncertainReceipts s.own (s.sched.list.filter fun r => !frameAfter r.eff s.dropBoundNow) } := by
  have hsched : s.sendDeferredWord.removeLeavers.sched = s.sched := by simp [State.sendDeferredWord]
  have hsub : s.sendDeferredWord.removeLeavers.sub = s.sub := by simp [State.sendDeferredWord]
  have hown : s.sendDeferredWord.removeLeavers.own = s.own := by simp [State.own, State.sendDeferredWord]
  have haged : s.joiningFrame.sub = s.sendDeferredWord.removeLeavers.dropHeld.sub := by simp [State.joiningFrame]
  rw [haged, State.dropHeld]
  simp only [State.dropUpTo, s.joiningFrame_dropBoundNow, hsched, hsub, hown]

theorem State.joiningFrame_shows : s.joiningFrame.shows = sendDeferred s.shows := by simp [State.joiningFrame, State.sendDeferredWord]

theorem State.joiningFrame_events :
    s.joiningFrame.events.frame = s.events.frame ∧
      s.joiningFrame.events.wall = { s.events.wall with rosterChanged := s.joiningFrame.events.wall.rosterChanged } := by
  have hevents : s.joiningFrame.events = s.sendDeferredWord.removeLeavers.events := by simp [State.joiningFrame]
  rw [hevents]
  exact ⟨State.removeLeavers_frameEvents _, State.removeLeavers_wall _⟩

/-! ### The countdown and its end (R40, R41) -/

variable {s}

theorem State.countListening_goesOn (h : 2 ≤ s.ctl.countdown) :
    s.countListening = { s with ctl.countdown := s.ctl.countdown - 1 } := if_neg (by omega)

theorem State.countListening_heard (h : s.ctl.countdown ≤ 1) (hheard : s.ctl.memberHeard = true) :
    s.countListening =
      { State.changeState .joining { s with ctl.countdown := s.ctl.countdown - 1 } with ctl.joinReason := .new } :=
  (if_pos h).trans (if_pos hheard)

theorem State.countListening_founds (h : s.ctl.countdown ≤ 1) (hheard : s.ctl.memberHeard = false) :
    s.countListening = State.found { s with ctl.countdown := s.ctl.countdown - 1 } :=
  (if_pos h).trans (if_neg (by rw [hheard]; exact nofun))

/-- A founding empties the list and takes the defaults (R41). -/
theorem State.found_fields (s : State) :
    s.found.ctl = { s.ctl with state := .member } ∧ s.found.sched = { s.sched with list := [] } ∧ s.found.sub = s.sub ∧
      s.found.obj = defaultObjects ∧
      s.found.shows = { s.shows with state := .stopped .blank, countdown := 0, deferred := some .stopBlank } ∧
      s.found.snap.eLost = none ∧ s.found.events.wall.stateChanged = true ∧
      s.found.events.frame.recordsApplied = s.events.frame.recordsApplied ∧ s.found.timer.frame = s.timer.frame :=
  ⟨rfl, rfl, rfl, rfl, rfl, rfl, rfl, rfl, rfl⟩

/-- What the end of a listening leaves, whichever it is. -/
theorem State.countListening_fields (s : State) :
    s.countListening.ctl.countdown = s.ctl.countdown - 1 ∧ s.countListening.shows.lastWord = s.shows.lastWord ∧
      s.countListening.sub = s.sub ∧ s.countListening.sched.dropBound = s.sched.dropBound ∧
      s.countListening.events.frame.recordsApplied = s.events.frame.recordsApplied := by
  unfold State.countListening State.endListening
  dsimp only
  repeat' split
  all_goals exact ⟨rfl, rfl, rfl, rfl, rfl⟩

/-- Without a founding the records, the objects and E_lost stay. -/
theorem State.countListening_kept (s : State) (h : ¬(s.ctl.countdown ≤ 1 ∧ s.ctl.memberHeard = false)) :
    s.countListening.sched = s.sched ∧ s.countListening.obj = s.obj ∧ s.countListening.snap.eLost = s.snap.eLost := by
  rcases Nat.lt_or_ge 1 s.ctl.countdown with hmore | hlast
  · rw [State.countListening_goesOn hmore]
    exact ⟨rfl, rfl, rfl⟩
  · have hheard : s.ctl.memberHeard = true := by
      by_contra hno
      exact h ⟨hlast, Bool.eq_false_iff.2 hno⟩
    rw [State.countListening_heard hlast hheard]
    exact ⟨rfl, rfl, rfl⟩

end

end Sys2Proof.Machine

namespace Sys2Proof.Proofs

open Sys2Proof Sys2Proof.Machine

/-- Settles O32: the listening's countdown and its two ends. -/
theorem listeningCountsDownAndEnds : Obligations.ListeningCountsDownAndEnds := by
  intro s hbetween hst
  obtain ⟨b, heffect⟩ := effect_frame_between hbetween
  rw [State.blockWork_listening (s := s.begun b) hst] at heffect
  have hctl : (s.begun b).joiningFrame.ctl = s.ctl := (s.begun b).joiningFrame_keeps.2.2.2.2.1
  have hobj : (s.begun b).joiningFrame.obj = s.obj := (s.begun b).joiningFrame_keeps.2.2.2.2.2.1
  have htimer : (s.begun b).joiningFrame.timer.frame = s.timer.frame + 1 := congrArg FrameTimer.frame (s.begun b).joiningFrame_keeps.2.2.2.1
  have hstraps : (s.begun b).joiningFrame.straps = s.straps := (s.begun b).joiningFrame_keeps.1
  obtain ⟨hcount, hword, -, -, -⟩ := (s.begun b).joiningFrame.countListening_fields
  have hwall : (s.begun b).joiningFrame.events.wall = { s.events.wall with rosterChanged := (s.begun b).joiningFrame.events.wall.rosterChanged } :=
    (s.begun b).joiningFrame_events.2
  have hlost : (s.begun b).joiningFrame.snap.eLost.isSome = s.snap.eLost.isSome := by
    rw [State.joiningFrame_snap]
    exact isSome_agedLost _ _
  have hdeferred : (s.begun b).joiningFrame.shows.lastWord = s.shows.deferred.getD .null := by
    rw [State.joiningFrame_shows]
    exact sendDeferred_lastWord s.shows
  generalize (s.begun b).joiningFrame = j at *
  refine ⟨effect .ownFrameTimerExpiry s, rfl, ?_⟩
  rw [heffect]
  refine ⟨hcount.trans (by rw [hctl]), hword.trans hdeferred, fun hmore => ?_, fun hone hheard => ?_, fun hone hheard => ?_⟩
  · rw [State.countListening_goesOn (by rw [hctl]; exact hmore)]
    exact ⟨(congrArg Controller.state hctl).trans hst, hobj, hwall⟩
  · rw [State.countListening_heard (by rw [hctl]; exact hone.le) (by rw [hctl]; exact hheard)]
    exact ⟨rfl, rfl, (congrArg Controller.memberHeard hctl).trans hheard, rfl, hlost, hobj, rfl⟩
  · rw [State.countListening_founds (by rw [hctl]; exact hone.le) (by rw [hctl]; exact hheard)]
    refine ⟨rfl, rfl, rfl, rfl, rfl, rfl, htimer, ?_, rfl⟩
    exact if_pos (show s.own = ⟨_, _⟩ from congrArg Straps.pos hstraps.symm)

/-- Settles O37: the drop of LISTENING and JOINING, and the aging of E_lost. -/
theorem joiningDropsHeldRecords : Obligations.JoiningDropsHeldRecords := by
  intro s hbetween hst bound founds
  obtain ⟨b, heffect⟩ := effect_frame_between hbetween
  have hbound : (s.begun b).dropBoundNow = bound := by
    have hends : s.timer.frame + 1 - 1 = s.timer.frame := by bv_omega
    exact congrArg (fun f => if s.snap.coll = .collecting then s.snap.collFrame else f) hends
  have hctl : (s.begun b).joiningFrame.ctl = s.ctl := (s.begun b).joiningFrame_keeps.2.2.2.2.1
  have hobj : (s.begun b).joiningFrame.obj = s.obj := (s.begun b).joiningFrame_keeps.2.2.2.2.2.1
  have hcomp : (s.begun b).joiningFrame.comp = s.comp := (s.begun b).joiningFrame_keeps.2.2.2.2.2.2.1
  have hsched := (s.begun b).joiningFrame_sched
  have hsub := (s.begun b).joiningFrame_sub
  rw [hbound] at hsched hsub
  rw [uncertainReceipts_filter] at hsub
  have happlied : (s.begun b).joiningFrame.events.frame.recordsApplied = s.events.frame.recordsApplied :=
    (congrArg FrameEvents.recordsApplied (s.begun b).joiningFrame_events.1).trans rfl
  have hlost : (s.begun b).joiningFrame.snap.eLost = agedLost (s.timer.frame + 1) s.snap.eLost :=
    congrArg Snapshot.eLost (s.begun b).joiningFrame_snap
  have hkept (hnot : ¬founds) (e : Frame) (he : s.snap.eLost = some e) :
      (s.begun b).joiningFrame.snap.eLost =
        some (if 16384 ≤ (s.timer.frame + 1 - e).toNat ∧ (s.timer.frame + 1 - e).toNat ≤ 32767 then s.timer.frame else e) := by
    have hends : s.timer.frame + 1 - 1 = s.timer.frame := by bv_omega
    rw [hlost, he, agedLost, Option.map_some, hends]
  refine ⟨effect .ownFrameTimerExpiry s, rfl, ?_⟩
  rw [heffect]
  rcases hst with hst | hst
  · have hnot : ¬founds := fun h => absurd (h.1.symm.trans hst) nofun
    rw [State.blockWork_joining (s := s.begun b) hst]
    generalize (s.begun b).joiningFrame = j at *
    refine ⟨congrArg Schedule.dropBound hsched, fun _ => ⟨congrArg Schedule.list hsched, hobj⟩, fun h => absurd h hnot, ?_, happlied,
      fun _ => ⟨hctl, ?_⟩, fun e he _ => hkept hnot e he⟩
    · exact hsub
    · have hquiet : applies j.ctl.state = false := by rw [hctl, hst]; rfl
      change (j.comp.showing || (applies j.ctl.state && _)) = s.comp.showing
      rw [hquiet, hcomp, Bool.false_and, Bool.or_false]
  · rw [State.blockWork_listening (s := s.begun b) hst]
    generalize (s.begun b).joiningFrame = j at *
    obtain ⟨-, -, hsub', hbound', happlied'⟩ := j.countListening_fields
    have hfounds : founds ↔ j.ctl.countdown ≤ 1 ∧ j.ctl.memberHeard = false := by
      rw [hctl]
      exact ⟨fun h => h.2, fun h => ⟨hst, h⟩⟩
    have hstays (hnot : ¬founds) := j.countListening_kept fun h => hnot (hfounds.2 h)
    refine ⟨hbound'.trans (congrArg Schedule.dropBound hsched), fun hnot => ⟨?_, (hstays hnot).2.1.trans hobj⟩, fun h => ?_,
      hsub'.trans hsub, happlied'.trans happlied, fun h => absurd (hst.symm.trans h) nofun,
      fun e he hnot => (hstays hnot).2.2.trans (hkept hnot e he)⟩
    · exact (congrArg Schedule.list (hstays hnot).1).trans (congrArg Schedule.list hsched)
    · obtain ⟨hlast, hheard⟩ := hfounds.1 h
      rw [State.countListening_founds hlast hheard]
      rfl

end Sys2Proof.Proofs

/-! SUPPORT. The apply of a frame start, record by record: objects, reports to the compositor, the one-SHOW rule and the receipts (R90 to
R92, R101, R108). -/

namespace Sys2Proof.Machine

/-- The outcome that the conditions on its fields give a record (R101). -/
def fieldOutcome (g : Geometry) (r : HeldRecord) : ReceiptOutcome := if changeValid g r.change = true then .applied else .rejectedField

/-- The outcome of a record that follows the first SHOW record of its frame (R92). -/
def laterOutcome (g : Geometry) (r : HeldRecord) : ReceiptOutcome := if r.change.kind = .showRec then .rejectedConflict else fieldOutcome g r

/-- The receipts of the own records among some, each with its outcome (R91). -/
def ownReceipts (own : Position) (outcome : HeldRecord → ReceiptOutcome) (l : List HeldRecord) : List Receipt :=
  (l.filter fun r => r.origin == own).map fun r => receiptOf r (outcome r)

theorem ownReceipts_append (own : Position) (outcome : HeldRecord → ReceiptOutcome) (l l' : List HeldRecord) :
    ownReceipts own outcome (l ++ l') = ownReceipts own outcome l ++ ownReceipts own outcome l' := by
  rw [ownReceipts, List.filter_append, List.map_append]
  rfl

theorem ownReceipts_singleton (own : Position) (outcome : HeldRecord → ReceiptOutcome) (r : HeldRecord) :
    ownReceipts own outcome [r] = if r.origin = own then [receiptOf r (outcome r)] else [] := by
  by_cases h : r.origin = own <;> simp [ownReceipts, h]

theorem ownReceipts_congr {own : Position} {outcome outcome' : HeldRecord → ReceiptOutcome} {l : List HeldRecord}
    (h : ∀ r ∈ l, outcome r = outcome' r) : ownReceipts own outcome l = ownReceipts own outcome' l :=
  List.map_congr_left fun r hr => by rw [h r (List.mem_of_mem_filter hr)]

section
variable {g : Geometry} {own : Position} {run : ApplyRun} {r : HeldRecord} {c a : Byte}

/-! ### One record -/

theorem dispatchAtFrame_other (h : r.change.kind ≠ .showRec) : dispatchAtFrame g own run r = run.store g own r := by
  unfold dispatchAtFrame
  split
  · next c a hc => exact absurd ((kind_eq_showRec_iff _).2 ⟨c, a, hc⟩) h
  · rfl

theorem dispatchAtFrame_conflict (hr : r.change = .showRec c a) (h : run.showFrame = some r.eff) :
    dispatchAtFrame g own run r = run.settle own r .rejectedConflict := by
  simp only [dispatchAtFrame, hr, h, if_true]

theorem dispatchAtFrame_first (hr : r.change = .showRec c a) (h : run.showFrame ≠ some r.eff) :
    dispatchAtFrame g own run r =
      ({ run with
        shows := (judgeShow c a run.shows).1
        showFrame := some r.eff
        showApplied := (judgeShow c a run.shows).2 == ReceiptOutcome.applied }).settle own r (judgeShow c a run.shows).2 := by
  simp only [dispatchAtFrame, hr, h, if_false]

/-- A SHOW record writes no object. -/
theorem writeObject_showRec (c a : Byte) (o : Objects) : writeObject (.showRec c a) o = o := rfl

theorem dispatchAtFrame_obj (g : Geometry) (own : Position) (run : ApplyRun) (r : HeldRecord) :
    (dispatchAtFrame g own run r).obj = if changeValid g r.change = true then writeObject r.change run.obj else run.obj := by
  by_cases hkind : r.change.kind = .showRec
  · obtain ⟨c, a, hr⟩ := (kind_eq_showRec_iff _).1 hkind
    rw [hr, writeObject_showRec, ite_self]
    by_cases hframe : run.showFrame = some r.eff
    · simp [dispatchAtFrame_conflict hr hframe]
    · simp [dispatchAtFrame_first hr hframe]
  · rw [dispatchAtFrame_other hkind]
    simp [ApplyRun.store, applyObject_eq]

theorem fieldOutcome_applied_iff : (fieldOutcome g r == ReceiptOutcome.applied) = changeValid g r.change := by
  unfold fieldOutcome
  cases changeValid g r.change <;> rfl

/-- What a record has the compositor recompute (R108). -/
theorem dispatchAtFrame_reports (g : Geometry) (own : Position) (run : ApplyRun) (r : HeldRecord) :
    (dispatchAtFrame g own run r).windows = (run.windows || (changeValid g r.change && changesWindows r.change)) ∧
      (dispatchAtFrame g own run r).cursor = (run.cursor || (changeValid g r.change && changesCursor r.change)) := by
  by_cases hkind : r.change.kind = .showRec
  · obtain ⟨c, a, hr⟩ := (kind_eq_showRec_iff _).1 hkind
    have hnone : changesWindows r.change = false ∧ changesCursor r.change = false := by rw [hr]; exact ⟨rfl, rfl⟩
    rw [hnone.1, hnone.2, Bool.and_false, Bool.or_false, Bool.or_false]
    by_cases hframe : run.showFrame = some r.eff
    · simp [dispatchAtFrame_conflict hr hframe]
    · simp [dispatchAtFrame_first hr hframe]
  · have houtcome := fieldOutcome_applied_iff (g := g) (r := r)
    rw [fieldOutcome] at houtcome
    rw [dispatchAtFrame_other hkind]
    simp [ApplyRun.store, applyObject_eq, houtcome]

/-! ### The due records -/

theorem foldl_dispatchAtFrame_obj (g : Geometry) (own : Position) (l : List HeldRecord) (run : ApplyRun) :
    (l.foldl (dispatchAtFrame g own) run).obj =
      l.foldl (fun o r => if changeValid g r.change = true then writeObject r.change o else o) run.obj := by
  induction l generalizing run with
  | nil => rfl
  | cons r l ih => rw [List.foldl_cons, List.foldl_cons, ih, dispatchAtFrame_obj]

theorem foldl_dispatchAtFrame_reports (g : Geometry) (own : Position) (l : List HeldRecord) (run : ApplyRun) :
    (l.foldl (dispatchAtFrame g own) run).windows = (run.windows || l.any fun r => changeValid g r.change && changesWindows r.change) ∧
      (l.foldl (dispatchAtFrame g own) run).cursor = (run.cursor || l.any fun r => changeValid g r.change && changesCursor r.change) := by
  induction l generalizing run with
  | nil => simp
  | cons r l ih =>
    obtain ⟨hwindows, hcursor⟩ := ih (dispatchAtFrame g own run r)
    obtain ⟨hw, hc⟩ := dispatchAtFrame_reports g own run r
    rw [List.foldl_cons, hwindows, hcursor, hw, hc, List.any_cons, List.any_cons, Bool.or_assoc, Bool.or_assoc]
    exact ⟨rfl, rfl⟩

/-- Where no record is the first SHOW record of its frame, the show work of the run stays, and each own record gets its receipt. -/
theorem foldl_dispatchAtFrame_quiet (l : List HeldRecord) (h : ∀ r ∈ l, r.change.kind = .showRec → run.showFrame = some r.eff) :
    (l.foldl (dispatchAtFrame g own) run).shows = run.shows ∧ (l.foldl (dispatchAtFrame g own) run).showFrame = run.showFrame ∧
      (l.foldl (dispatchAtFrame g own) run).showApplied = run.showApplied ∧
      (l.foldl (dispatchAtFrame g own) run).receipts = run.receipts ++ ownReceipts own (laterOutcome g) l := by
  induction l generalizing run with
  | nil => simp [ownReceipts]
  | cons r l ih =>
    have hone : (dispatchAtFrame g own run r).shows = run.shows ∧ (dispatchAtFrame g own run r).showFrame = run.showFrame ∧
        (dispatchAtFrame g own run r).showApplied = run.showApplied ∧
        (dispatchAtFrame g own run r).receipts = run.receipts ++ ownReceipts own (laterOutcome g) [r] := by
      rw [ownReceipts_singleton]
      by_cases hkind : r.change.kind = .showRec
      · obtain ⟨c, a, hr⟩ := (kind_eq_showRec_iff _).1 hkind
        rw [dispatchAtFrame_conflict hr (h r List.mem_cons_self hkind), laterOutcome, if_pos hkind]
        exact ⟨by simp, by simp, by simp, ApplyRun.settle_receipts _ _ _ _⟩
      · rw [dispatchAtFrame_other hkind, laterOutcome, if_neg hkind]
        refine ⟨by simp [ApplyRun.store], by simp [ApplyRun.store], by simp [ApplyRun.store], ?_⟩
        rw [ApplyRun.store, ApplyRun.settle_receipts, applyObject_eq]
        rfl
    obtain ⟨hshows, hframe, happlied, hreceipts⟩ := hone
    obtain ⟨hshows', hframe', happlied', hreceipts'⟩ := ih (run := dispatchAtFrame g own run r) fun x hx hkind => by
      rw [hframe]
      exact h x (List.mem_cons_of_mem _ hx) hkind
    rw [List.foldl_cons]
    refine ⟨hshows'.trans hshows, hframe'.trans hframe, happlied'.trans happlied, ?_⟩
    rw [hreceipts', hreceipts, List.append_assoc, ← ownReceipts_append]
    rfl

theorem laterOutcome_of_not_show (h : r.change.kind ≠ .showRec) : laterOutcome g r = fieldOutcome g r := if_neg h

variable {o : Objects} {k : ShowControl}

/-- Without a SHOW record the show controller takes its pacing step (R118). -/
theorem foldl_dispatchAtFrame_noShow (l : List HeldRecord) (h : ∀ r ∈ l, r.change.kind ≠ .showRec) :
    showWork (l.foldl (dispatchAtFrame g own) (ApplyRun.begin o k)) = pacingStep k ∧
      (l.foldl (dispatchAtFrame g own) (ApplyRun.begin o k)).receipts = ownReceipts own (fieldOutcome g) l := by
  obtain ⟨hshows, -, happlied, hreceipts⟩ := foldl_dispatchAtFrame_quiet (g := g) (own := own) (run := ApplyRun.begin o k) l
    fun r hr hkind => absurd hkind (h r hr)
  refine ⟨?_, ?_⟩
  · rw [showWork, happlied, hshows]
    rfl
  · rw [hreceipts, ownReceipts_congr fun r hr => laterOutcome_of_not_show (h r hr)]
    rfl

/-- The first SHOW record of a frame is judged, and every later one is REJECTED_CONFLICT (R92). -/
theorem foldl_dispatchAtFrame_show {before after : List HeldRecord} {f : Frame} (hr : r.change = .showRec c a)
    (hbefore : ∀ x ∈ before, x.change.kind ≠ .showRec) (hf : r.eff = f) (hafter : ∀ x ∈ after, x.eff = f) :
    showWork ((before ++ r :: after).foldl (dispatchAtFrame g own) (ApplyRun.begin o k)) =
        (if (judgeShow c a k).2 = .applied then (judgeShow c a k).1 else pacingStep (judgeShow c a k).1) ∧
      ((before ++ r :: after).foldl (dispatchAtFrame g own) (ApplyRun.begin o k)).receipts =
        ownReceipts own (fieldOutcome g) before ++ ownReceipts own (fun _ => (judgeShow c a k).2) [r] ++
          ownReceipts own (laterOutcome g) after := by
  obtain ⟨hshows, hframe, -, hreceipts⟩ := foldl_dispatchAtFrame_quiet (g := g) (own := own) (run := ApplyRun.begin o k) before
    fun x hx hkind => absurd hkind (hbefore x hx)
  rw [List.foldl_append, List.foldl_cons]
  have hnone : (before.foldl (dispatchAtFrame g own) (ApplyRun.begin o k)).showFrame ≠ some r.eff := by
    rw [hframe]
    exact nofun
  have hfirst := dispatchAtFrame_first (g := g) (own := own) hr hnone
  rw [hshows] at hfirst
  have hbegin : (ApplyRun.begin o k).shows = k := rfl
  rw [hbegin] at hfirst
  obtain ⟨hshows', -, happlied', hreceipts'⟩ := foldl_dispatchAtFrame_quiet (g := g) (own := own)
    (run := dispatchAtFrame g own (before.foldl (dispatchAtFrame g own) (ApplyRun.begin o k)) r) after fun x hx _ => by
      rw [hfirst, hafter x hx, ← hf]
      simp
  refine ⟨?_, ?_⟩
  · rw [showWork, happlied', hshows', hfirst]
    simp only [ApplyRun.settle_keeps, beq_iff_eq]
  · rw [hreceipts', hfirst, ApplyRun.settle_receipts, ownReceipts_singleton, hreceipts,
      ownReceipts_congr fun x hx => laterOutcome_of_not_show (hbefore x hx)]
    rfl

end

end Sys2Proof.Machine

/-! SUPPORT. What a frame start in MEMBER, LOOPBACK and LEAVING leaves of the list, the objects, the show controller, the receipts and the
compositor (R90 to R93, R108, R118 to R121, R127, R152 to R160). -/

namespace Sys2Proof.Machine

/-! ### The reports of the object store (R108, R152, R153, R158) -/

section
variable (s : State)

theorem State.reportObjects_windows (c : Bool) :
    (s.reportObjects true c).comp.tile = tileRect s.straps s.cfg ∧
      (s.reportObjects true c).comp.views = deriveViews (tileRect s.straps s.cfg) s.obj.windows ∧
      (s.reportObjects true c).comp.qualifying = (qualifying (tileRect s.straps s.cfg) s.obj.windows).length ∧
      ((s.reportObjects true c).events.frame.viewOverflow = true ↔
        s.events.frame.viewOverflow = true ∨ (4 < (s.reportObjects true c).comp.qualifying ∧ s.comp.overflow = false)) := by
  have hevent : s.refreshViews.events.frame.viewOverflow = true ↔
      s.events.frame.viewOverflow = true ∨ (4 < s.refreshViews.comp.qualifying ∧ s.comp.overflow = false) := by
    rw [State.refreshViews_viewOverflow_iff, State.refreshViews_overflow_iff]
  cases c <;> exact ⟨rfl, rfl, rfl, hevent⟩

theorem State.reportObjects_noWindows (c : Bool) :
    (s.reportObjects false c).comp.views = s.comp.views ∧ (s.reportObjects false c).comp.qualifying = s.comp.qualifying ∧
      (s.reportObjects false c).comp.overflow = s.comp.overflow ∧
      (s.reportObjects false c).events.frame.viewOverflow = s.events.frame.viewOverflow := by
  cases c <;> exact ⟨rfl, rfl, rfl, rfl⟩

theorem State.reportObjects_cursor (w : Bool) :
    (s.reportObjects w true).comp.tile = tileRect s.straps s.cfg ∧
      (s.reportObjects w true).comp.placement = placementOf (tileRect s.straps s.cfg) s.obj.curX s.obj.curY ∧
      (s.reportObjects w true).comp.cursorOnTile = (s.obj.look.visible && (s.reportObjects w true).comp.placement.isSome) ∧
      ((s.reportObjects w true).events.frame.cursorTileChanged = true ↔
        s.events.frame.cursorTileChanged = true ∨ (s.reportObjects w true).comp.cursorOnTile ≠ s.comp.cursorOnTile) := by
  cases w
  · exact ⟨rfl, rfl, rfl, s.refreshCursor_cursorTileChanged_iff⟩
  · exact ⟨rfl, rfl, rfl, s.refreshViews.refreshCursor_cursorTileChanged_iff⟩

theorem State.reportObjects_noCursor (w : Bool) :
    (s.reportObjects w false).comp.placement = s.comp.placement ∧ (s.reportObjects w false).comp.cursorOnTile = s.comp.cursorOnTile ∧
      (s.reportObjects w false).events.frame.cursorTileChanged = s.events.frame.cursorTileChanged := by
  cases w <;> exact ⟨rfl, rfl, rfl⟩

theorem State.reportObjects_frameEvents (w c : Bool) :
    (s.reportObjects w c).events.frame.recordsApplied = s.events.frame.recordsApplied ∧
      (s.reportObjects w c).events.frame.frameStarted = s.events.frame.frameStarted := by
  cases w <;> cases c <;> exact ⟨rfl, rfl⟩

/-! ### The work of a frame start that applies -/

/-- The reports of the frame start, before the report of the show state. -/
def State.reported (s : State) : State := s.applied.reportObjects (applyRunAt s).windows (applyRunAt s).cursor

theorem State.frameWork_reported :
    s.frameWork = if (showWork (applyRunAt s)).state = s.shows.state then s.reported else s.reported.reportShow := rfl

theorem State.frameWork_events : s.frameWork.events = s.reported.events := by
  rw [State.frameWork_reported]
  split <;> rfl

theorem State.frameWork_comp_reported : s.frameWork.comp = { s.reported.comp with hidden := s.frameWork.comp.hidden } := by
  rw [State.frameWork_reported]
  split <;> rfl

theorem State.frameWork_sched :
    s.frameWork.sched = { s.sched with list := s.sched.list.filter fun r => r.eff != s.timer.frame } := by
  have hsched : s.reported.sched = s.applied.sched := by simp [State.reported]
  have hwork : s.frameWork.sched = s.reported.sched := by
    rw [State.frameWork_reported]
    split <;> rfl
  rw [hwork, hsched]
  rfl

theorem sendWord_state (k : ShowControl) : (sendWord k).state = k.state := rfl

theorem hidesWindows_eq (st : ShowState) : hidesWindows st = decide (st = .stopped .blank) := by
  rw [Bool.eq_iff_iff, hidesWindows_iff, decide_eq_true_iff]

/-- Windows are hidden by the show state that a change of it leaves (R127, R155). -/
theorem State.frameWork_hidden :
    s.frameWork.comp.hidden =
      if s.frameWork.shows.state = s.shows.state then s.comp.hidden else decide (s.frameWork.shows.state = .stopped .blank) := by
  have hreported : s.reported.comp.hidden = s.comp.hidden := s.applied.reportObjects_hidden _ _
  have hshows : s.reported.shows.state = (showWork (applyRunAt s)).state := by simp [State.reported, State.applied, sendWord_state]
  rw [State.frameWork_shows, sendWord_state, State.frameWork_reported]
  split
  · exact hreported
  · rw [← hidesWindows_eq, ← hshows]
    rfl

/-- The due records of the next frame. -/
def State.dueNext (s : State) : List HeldRecord := s.sched.list.filter fun x => x.eff == s.timer.frame + 1

/-- The apply of the next frame start. -/
def State.nextRun (s : State) : ApplyRun :=
  s.dueNext.foldl (dispatchAtFrame s.geometry s.own) (ApplyRun.begin s.obj { s.shows with transition := .null })

/-- What a frame start that applies leaves, in terms of the state before it and of its apply. -/
structure State.FrameApplied (s t : State) : Prop where
  obj : t.obj = s.nextRun.obj
  shows : t.shows = sendWord (showWork s.nextRun)
  sched : t.sched = { s.sched with list := s.sched.list.filter fun x => x.eff != s.timer.frame + 1 }
  sub : t.sub = { s.sub with receipts := s.sub.receipts ++ s.nextRun.receipts }
  started : t.events.frame.frameStarted = true
  appliedIff : t.events.frame.recordsApplied = true ↔ s.events.frame.recordsApplied = true ∨ s.dueNext ≠ []
  windows : s.nextRun.windows = true →
    t.comp.tile = tileRect s.straps s.cfg ∧ t.comp.views = deriveViews (tileRect s.straps s.cfg) t.obj.windows ∧
      t.comp.qualifying = (qualifying (tileRect s.straps s.cfg) t.obj.windows).length ∧
      (t.events.frame.viewOverflow = true ↔
        s.events.frame.viewOverflow = true ∨ (4 < t.comp.qualifying ∧ s.comp.overflow = false))
  noWindows : s.nextRun.windows = false →
    t.comp.views = s.comp.views ∧ t.comp.qualifying = s.comp.qualifying ∧ t.comp.overflow = s.comp.overflow ∧
      t.events.frame.viewOverflow = s.events.frame.viewOverflow
  cursor : s.nextRun.cursor = true →
    t.comp.tile = tileRect s.straps s.cfg ∧ t.comp.placement = placementOf (tileRect s.straps s.cfg) t.obj.curX t.obj.curY ∧
      t.comp.cursorOnTile = (t.obj.look.visible && t.comp.placement.isSome) ∧
      (t.events.frame.cursorTileChanged = true ↔
        s.events.frame.cursorTileChanged = true ∨ t.comp.cursorOnTile ≠ s.comp.cursorOnTile)
  noCursor : s.nextRun.cursor = false →
    t.comp.placement = s.comp.placement ∧ t.comp.cursorOnTile = s.comp.cursorOnTile ∧
      t.events.frame.cursorTileChanged = s.events.frame.cursorTileChanged
  hidden : t.comp.hidden = if t.shows.state = s.shows.state then s.comp.hidden else decide (t.shows.state = .stopped .blank)
  showing : t.comp.showing = (s.comp.showing || s.svc.power == .on)

/-- The state in which the blocks apply is `s` but for what the frame start has begun: the number, FRAME_STARTED, and what no apply reads. -/
structure State.AppliesAs (s x : State) : Prop where
  straps : x.straps = s.straps
  cfg : x.cfg = s.cfg
  obj : x.obj = s.obj
  sched : x.sched = s.sched
  sub : x.sub = s.sub
  shows : x.shows = s.shows
  comp : x.comp = s.comp
  svc : x.svc = s.svc
  frame : x.timer.frame = s.timer.frame + 1
  events : x.events.frame = { s.events.frame with frameStarted := true }

variable {s} {x : State}

theorem State.AppliesAs.run (h : s.AppliesAs x) : applyRunAt x = s.nextRun := by
  have hgeometry : x.geometry = s.geometry := by rw [State.geometry, State.geometry, h.straps, h.cfg]
  have hown : x.own = s.own := by rw [State.own, State.own, h.straps]
  rw [applyRunAt, h.frame, h.sched, hgeometry, hown, h.obj, h.shows]
  rfl

/-- What the frame's work leaves, with the output state evaluated after it. -/
theorem State.AppliesAs.done (h : s.AppliesAs x) {t : State} (hobj : t.obj = x.frameWork.obj) (hshows : t.shows = x.frameWork.shows)
    (hsched : t.sched = x.frameWork.sched) (hsub : t.sub = x.frameWork.sub) (hevents : t.events.frame = x.frameWork.events.frame)
    (hcomp : t.comp = { x.frameWork.comp with showing := x.frameWork.comp.showing || s.svc.power == .on }) : s.FrameApplied t := by
  have hrun := h.run
  have hframe : t.events.frame = x.reported.events.frame := by rw [hevents, State.frameWork_events]
  obtain ⟨htile, hviews, hcount, hover, hplace, honTile⟩ : t.comp.tile = x.reported.comp.tile ∧ t.comp.views = x.reported.comp.views ∧
      t.comp.qualifying = x.reported.comp.qualifying ∧ t.comp.overflow = x.reported.comp.overflow ∧
      t.comp.placement = x.reported.comp.placement ∧ t.comp.cursorOnTile = x.reported.comp.cursorOnTile := by
    rw [hcomp, State.frameWork_comp_reported]
    exact ⟨rfl, rfl, rfl, rfl, rfl, rfl⟩
  have hoverflow : s.events.frame.viewOverflow = x.applied.events.frame.viewOverflow :=
    (congrArg FrameEvents.viewOverflow h.events).symm
  have hchanged : s.events.frame.cursorTileChanged = x.applied.events.frame.cursorTileChanged :=
    (congrArg FrameEvents.cursorTileChanged h.events).symm
  have hsame : s.comp = x.applied.comp := h.comp.symm
  have hrect : tileRect s.straps s.cfg = tileRect x.applied.straps x.applied.cfg := by rw [← h.straps, ← h.cfg]; rfl
  have htobj : t.obj = (applyRunAt x).obj := hobj.trans x.frameWork_obj
  have happliedEvents := x.applied.reportObjects_frameEvents (applyRunAt x).windows (applyRunAt x).cursor
  refine {
    obj := htobj.trans (by rw [hrun])
    shows := by rw [hshows, State.frameWork_shows, hrun]
    sched := by rw [hsched, State.frameWork_sched, h.frame, h.sched]
    sub := by rw [hsub, State.frameWork_sub, h.sub, hrun]
    started := ?_
    appliedIff := ?_
    windows := fun hw => ?_
    noWindows := fun hw => ?_
    cursor := fun hc => ?_
    noCursor := fun hc => ?_
    hidden := ?_
    showing := ?_ }
  · rw [hframe, State.reported, happliedEvents.2]
    exact congrArg FrameEvents.frameStarted h.events
  · have hflag : x.applied.events.frame.recordsApplied = (s.events.frame.recordsApplied || !s.dueNext.isEmpty) := by
      have hdue : dueAt x.timer.frame x.sched.list = s.dueNext := by rw [h.frame, h.sched]; rfl
      have hbefore : x.events.frame.recordsApplied = s.events.frame.recordsApplied :=
        (congrArg FrameEvents.recordsApplied h.events).trans rfl
      rw [← hdue, ← hbefore]
      rfl
    rw [hframe, State.reported, happliedEvents.1, hflag]
    simp
  · have hreported : x.reported = x.applied.reportObjects true (applyRunAt x).cursor := by rw [State.reported, hrun, hw]
    rw [htile, hviews, hcount, hframe, hoverflow, hsame, hrect, htobj, hreported]
    exact x.applied.reportObjects_windows _
  · have hreported : x.reported = x.applied.reportObjects false (applyRunAt x).cursor := by rw [State.reported, hrun, hw]
    rw [hviews, hcount, hover, hframe, hoverflow, hsame, hreported]
    exact x.applied.reportObjects_noWindows _
  · have hreported : x.reported = x.applied.reportObjects (applyRunAt x).windows true := by rw [State.reported, hrun, hc]
    rw [htile, hplace, honTile, hframe, hchanged, hsame, hrect, htobj, hreported]
    exact x.applied.reportObjects_cursor _
  · have hreported : x.reported = x.applied.reportObjects (applyRunAt x).windows false := by rw [State.reported, hrun, hc]
    rw [hplace, honTile, hframe, hchanged, hsame, hreported]
    exact x.applied.reportObjects_noCursor _
  · have hshown : t.comp.hidden = x.frameWork.comp.hidden := by rw [hcomp]
    rw [hshown, State.frameWork_hidden, hshows, h.shows, h.comp]
  · rw [hcomp]
    change (x.frameWork.comp.showing || _) = _
    rw [State.frameWork_showing, h.comp]

end

end Sys2Proof.Machine

/-! SUPPORT. The frame start of MEMBER, LOOPBACK and LEAVING before its leave frame, from the state before it (R90 to R93). -/

namespace Sys2Proof.Machine

section
variable {s : State}

theorem State.AppliesAs.begun (b : Bus) (s : State) : s.AppliesAs (s.begun b) := by
  constructor <;> rfl

theorem State.AppliesAs.removed {x : State} (h : s.AppliesAs x) : s.AppliesAs x.removeLeavers where
  straps := x.removeLeavers_keeps.1.trans h.straps
  cfg := x.removeLeavers_keeps.2.1.trans h.cfg
  obj := by rw [← h.obj]; simp
  sched := by rw [← h.sched]; simp
  sub := by rw [← h.sub]; simp
  shows := by rw [← h.shows]; simp
  comp := by rw [← h.comp]; simp
  svc := by rw [← h.svc]; simp
  frame := by rw [← h.frame]; simp
  events := by rw [← h.events]; simp

/-- The end of a frame start after work that applied. -/
theorem State.AppliesAs.ended {x w : State} (h : s.AppliesAs x) (hobj : w.obj = x.frameWork.obj) (hshows : w.shows = x.frameWork.shows)
    (hsched : w.sched = x.frameWork.sched) (hsub : w.sub = x.frameWork.sub) (hevents : w.events = x.frameWork.events)
    (hcomp : w.comp = x.frameWork.comp) (hsvc : w.svc = x.svc) (happlies : applies w.ctl.state = true) :
    s.FrameApplied (w.evaluateOutput.openWindow 0) := by
  refine h.done hobj hshows hsched hsub (congrArg Events.frame hevents) ?_
  change ({ w.comp with showing := w.comp.showing || (applies w.ctl.state && w.svc.power == .on) } : Compositor) = _
  rw [happlies, Bool.true_and, hsvc, h.svc, hcomp]

theorem State.frameStart_applies (hbetween : s.betweenSlots)
    (hst : s.ctl.state = .member ∨ s.ctl.state = .loopback ∨
      (s.ctl.state = .leaving ∧ s.ctl.leaveFrame ≠ some (s.timer.frame + 1))) :
    s.FrameApplied (effect .ownFrameTimerExpiry s) := by
  obtain ⟨b, heffect⟩ := effect_frame_between hbetween
  have hctl : (s.begun b).ctl = s.ctl := rfl
  have hbegun := State.AppliesAs.begun b s
  have hremoved := hbegun.removed
  rw [heffect]
  rcases hst with hst | hst | ⟨hst, hleave⟩
  · have hstate : (s.begun b).removeLeavers.frameWork.startStream.ctl.state = .member := by simpa [hctl] using hst
    rw [State.blockWork_member (s := s.begun b) hst]
    exact hremoved.ended (by simp) (by simp) (by simp) (by simp) (by simp) (by simp) (by simp) (by rw [hstate]; rfl)
  · have hstate : (s.begun b).frameWork.ctl.state = .loopback := by simpa [hctl] using hst
    rw [State.blockWork_loopback (s := s.begun b) hst]
    exact hbegun.ended rfl rfl rfl rfl rfl rfl (by simp) (by rw [hstate]; rfl)
  · have hstate : (s.begun b).removeLeavers.frameWork.ctl.state = .leaving := by simpa [hctl] using hst
    rw [State.blockWork_leaving (s := s.begun b) hst hleave]
    exact hremoved.ended rfl rfl rfl rfl rfl rfl (by simp) (by rw [hstate]; rfl)

/-! ### The apply of the due records -/

theorem State.nextRun_obj (s : State) :
    s.nextRun.obj = s.dueNext.foldl (fun o r => if changeValid s.geometry r.change = true then writeObject r.change o else o) s.obj :=
  foldl_dispatchAtFrame_obj _ _ _ _

theorem changesWindows_iff (c : Change) : changesWindows c = true ↔ c.kind = .window := by
  cases c <;> simp [changesWindows, Change.kind]

theorem changesCursor_iff (c : Change) : changesCursor c = true ↔ c.kind = .cursorMove ∨ c.kind = .cursorLook := by
  cases c <;> simp [changesCursor, Change.kind]

theorem State.nextRun_windows_iff (s : State) :
    s.nextRun.windows = true ↔ ∃ r ∈ s.dueNext, changeValid s.geometry r.change = true ∧ r.change.kind = .window := by
  have hrun : s.nextRun.windows = (false || s.dueNext.any fun r => changeValid s.geometry r.change && changesWindows r.change) :=
    (foldl_dispatchAtFrame_reports _ _ _ _).1
  rw [hrun, Bool.false_or, List.any_eq_true]
  simp only [Bool.and_eq_true, changesWindows_iff]

theorem State.nextRun_cursor_iff (s : State) :
    s.nextRun.cursor = true ↔
      ∃ r ∈ s.dueNext, changeValid s.geometry r.change = true ∧ (r.change.kind = .cursorMove ∨ r.change.kind = .cursorLook) := by
  have hrun : s.nextRun.cursor = (false || s.dueNext.any fun r => changeValid s.geometry r.change && changesCursor r.change) :=
    (foldl_dispatchAtFrame_reports _ _ _ _).2
  rw [hrun, Bool.false_or, List.any_eq_true]
  simp only [Bool.and_eq_true, changesCursor_iff]

theorem State.nextRun_noShow (h : ∀ r ∈ s.dueNext, r.change.kind ≠ .showRec) :
    showWork s.nextRun = pacingStep { s.shows with transition := .null } ∧
      s.nextRun.receipts = ownReceipts s.own (fieldOutcome s.geometry) s.dueNext := foldl_dispatchAtFrame_noShow _ h

theorem State.eff_of_dueNext {r : HeldRecord} (h : r ∈ s.dueNext) : r.eff = s.timer.frame + 1 :=
  eq_of_beq (List.mem_filter.1 h).2

theorem State.nextRun_show {before after : List HeldRecord} {r : HeldRecord} {c a : Byte} (hdue : s.dueNext = before ++ r :: after)
    (hr : r.change = .showRec c a) (hbefore : ∀ x ∈ before, x.change.kind ≠ .showRec) :
    showWork s.nextRun =
        (if (judgeShow c a { s.shows with transition := .null }).2 = .applied then (judgeShow c a { s.shows with transition := .null }).1
          else pacingStep (judgeShow c a { s.shows with transition := .null }).1) ∧
      s.nextRun.receipts =
        ownReceipts s.own (fieldOutcome s.geometry) before ++
          ownReceipts s.own (fun _ => (judgeShow c a { s.shows with transition := .null }).2) [r] ++
          ownReceipts s.own (laterOutcome s.geometry) after := by
  unfold State.nextRun
  rw [hdue]
  have hmem (x : HeldRecord) (hx : x ∈ r :: after) : x ∈ s.dueNext := hdue ▸ List.mem_append_right _ hx
  exact foldl_dispatchAtFrame_show hr hbefore (State.eff_of_dueNext (hmem r List.mem_cons_self)) fun x hx =>
    State.eff_of_dueNext (hmem x (List.mem_cons_of_mem _ hx))

theorem pacingStep_state (k : ShowControl) : (pacingStep k).state = k.state := by rw [pacingStep_fields]

end

end Sys2Proof.Machine

namespace Sys2Proof.Proofs

open Sys2Proof Sys2Proof.Machine

/-- Settles O33: the apply of a frame start, its receipts, its word, and what it reports to the compositor. -/
theorem frameStartAppliesDueRecords : Obligations.FrameStartAppliesDueRecords := by
  refine ⟨fun r s hbetween hst hdue hkind => ?_, fun s hbetween hst hnone => ?_, fun a b ca aa cb ab s hbetween hst hdue ha hb howna hownb => ?_,
    fun s hbetween hst => ?_⟩
  · have hdue' : s.dueNext = [r] := hdue
    have ht := State.frameStart_applies hbetween (.inl hst)
    have hnoShow : ∀ x ∈ s.dueNext, x.change.kind ≠ .showRec := by
      rw [hdue']
      intro x hx hshow
      obtain rfl := List.mem_singleton.1 hx
      obtain ⟨c, a, hc⟩ := (kind_eq_showRec_iff _).1 hshow
      exact hkind c a hc
    obtain ⟨hshows, hreceipts⟩ := State.nextRun_noShow hnoShow
    refine ⟨effect .ownFrameTimerExpiry s, rfl, congrArg Schedule.list ht.sched, ht.appliedIff.2 (.inr (by rw [hdue']; exact nofun)), ht.started,
      ?_, ?_, (congrArg Submission.outbound ht.sub).trans rfl, (congrArg Submission.stage ht.sub).trans rfl, (congrArg Schedule.outOfWindow ht.sched).trans rfl, ?_⟩
    · rw [ht.obj, State.nextRun_obj, hdue']
      rfl
    · rw [ht.sub, hreceipts, hdue', ownReceipts_singleton]
      rfl
    · rw [ht.shows, hshows]
  · have hdue : s.dueNext = [] := List.filter_eq_nil_iff.2 fun x hx heff => hnone x hx (eq_of_beq heff)
    have hlist : (s.sched.list.filter fun x => x.eff != s.timer.frame + 1) = s.sched.list :=
      List.filter_eq_self.2 fun x hx => bne_iff_ne.2 (hnone x hx)
    have hrun : s.nextRun = ApplyRun.begin s.obj { s.shows with transition := .null } := by rw [State.nextRun, hdue]; rfl
    have ht := State.frameStart_applies hbetween (.inl hst)
    have hshows : (effect .ownFrameTimerExpiry s).shows = sendWord (pacingStep { s.shows with transition := .null }) := by
      rw [ht.shows, hrun]
      rfl
    refine ⟨effect .ownFrameTimerExpiry s, rfl, ht.obj.trans (by rw [hrun]; rfl), ?_, ?_, ?_, hshows, (ht.noWindows (by rw [hrun]; rfl)).1,
      (ht.noCursor (by rw [hrun]; rfl)).1, ?_, ?_⟩
    · rw [ht.sched, hlist]
    · have hreceipts : s.sub.receipts ++ s.nextRun.receipts = s.sub.receipts := by rw [hrun]; exact List.append_nil _
      rw [ht.sub, hreceipts]
    · rw [Bool.eq_iff_iff, ht.appliedIff, hdue]
      simp
    · rw [ht.hidden]
      refine if_pos ?_
      rw [hshows, sendWord_state, pacingStep_state]
    · rw [ht.showing, Bool.or_eq_true, beq_iff_eq]
  · intro judged
    have ht := State.frameStart_applies hbetween (.inl hst)
    have hdue' : s.dueNext = [] ++ a :: [b] := hdue
    obtain ⟨hshows, hreceipts⟩ := State.nextRun_show hdue' ha nofun
    refine ⟨effect .ownFrameTimerExpiry s, rfl, ?_, ?_, ?_, congrArg Schedule.list ht.sched⟩
    · have hkinda : a.change.kind = .showRec := (kind_eq_showRec_iff _).2 ⟨_, _, ha⟩
      have hkindb : b.change.kind = .showRec := (kind_eq_showRec_iff _).2 ⟨_, _, hb⟩
      rw [ht.sub, hreceipts, ownReceipts_singleton, ownReceipts_singleton, if_pos howna, if_pos hownb, laterOutcome, if_pos hkindb, receiptOf,
        receiptOf, hkinda, hkindb]
      rfl
    · rw [ht.shows, hshows]
    · rw [ht.obj, State.nextRun_obj, hdue']
      simp [ha, hb, writeObject_showRec]
  · intro due ok fields receipts
    have ht := State.frameStart_applies hbetween hst
    refine ⟨effect .ownFrameTimerExpiry s, rfl, congrArg Schedule.list ht.sched, ht.appliedIff, ht.obj.trans s.nextRun_obj, fun hnoShow => ?_,
      fun before r c a after hdue hr hbefore => ?_, fun h => ht.windows (s.nextRun_windows_iff.2 h), fun h => ht.noWindows ?_,
      fun h => ht.cursor (s.nextRun_cursor_iff.2 h), fun h => ht.noCursor ?_, ht.hidden⟩
    · obtain ⟨hshows, hreceipts⟩ := State.nextRun_noShow hnoShow
      refine ⟨by rw [ht.shows, hshows], ?_⟩
      rw [ht.sub, hreceipts]
      rfl
    · intro judged
      obtain ⟨hshows, hreceipts⟩ := State.nextRun_show hdue hr hbefore
      refine ⟨by rw [ht.shows, hshows], ?_⟩
      rw [ht.sub, hreceipts, ← List.append_assoc, ← List.append_assoc]
      rfl
    · rw [← Bool.not_eq_true, s.nextRun_windows_iff]
      rintro ⟨r, hr, hok, hkind⟩
      exact h r hr hok hkind
    · rw [← Bool.not_eq_true, s.nextRun_cursor_iff]
      rintro ⟨r, hr, hok, hkind⟩
      exact hkind.elim (h r hr hok).1 (h r hr hok).2

end Sys2Proof.Proofs
